-- ==== Sys2Proof/Word.lean ====
section
/-! DEFINITION. The numbers of the MV2432: its addresses, its bytes and the numbers of its records
("Conventions: Numbers, sizes and addresses" and "Fixed quantities" of 00_scope.md). -/

namespace Sys2Proof

/-- One byte of data. -/
abbrev Byte := BitVec 8

/-- A 40-bit upstream byte address. -/
abbrev UpAddr := BitVec 40

/-- A 44-bit downstream (memory) byte address. -/
abbrev DownAddr := BitVec 44

/-- An upstream line address: an upstream address with its low 6 bits removed. -/
abbrev UpLine := BitVec 34

/-- A downstream line address: a downstream address with its low 6 bits removed. -/
abbrev DownLine := BitVec 38

/-- Requesters are numbered 0–31. -/
abbrev RequesterNo := Fin 32

/-- Address windows are numbered 0–11. -/
abbrev WindowNo := Fin 12

/-- Deferral Table entries are numbered 0–23. -/
abbrev EntryNo := Fin 24

/-- Memory Link tags are numbered 0–31. -/
abbrev TagNo := Fin 32

/-- A check code (R2).  Its width is not given; the part uses it only through equality. -/
abbrev CheckCode := Nat

/-- A 7-bit device address on the Maintenance Port (R174). -/
abbrev DeviceAddr := BitVec 7

/-- A register of the register window (section 10.8). -/
abbrev Word := BitVec 32

end Sys2Proof
end

