-- ==== Sys2Proof/Syntax.lean ====
section
/-! DEFINITION. The commands of the part: one constructor of `Instr` for each row of
spec/opcode_table.json, with the operands the row's rule gives it. -/

namespace Sys2Proof

/-- The command field of an Upstream Bus request (R1).  `illegal` stands for each further value that
the field's encoding can express. -/
inductive UpCommand where
  | read
  | write
  | sync
  | illegal (code : Nat)
  deriving DecidableEq, Repr

/-- A request of the Upstream Bus as the UBI receives it (R1). -/
structure UpRequest where
  /-- taken from the bus grant, always 0–31 -/
  requester : RequesterNo
  command : UpCommand
  address : UpAddr
  /-- any value the field can express, 0 and values above 64 included -/
  length : Nat
  /-- the write data, in order of ascending address; present for WRITE only -/
  data : List Byte
  /-- the request check as received -/
  requestCheck : CheckCode
  /-- the data check as received; present for WRITE only -/
  dataCheck : CheckCode
  deriving DecidableEq, Repr

/-- The status field of READ_CPL and WRITE_ACK (R108).  `other` stands for each encoding beyond the
listed ones. -/
inductive LinkStatus where
  | ok
  | poison
  | noMemory
  | refused
  | other (code : Nat)
  deriving DecidableEq, Repr

/-- A READ_CPL message of the Memory Link (R108).  Data and data check are present for status OK. -/
structure ReadCompletion where
  tag : TagNo
  status : LinkStatus
  data : List Byte
  dataCheck : CheckCode
  deriving DecidableEq, Repr

/-- One write transaction of the Maintenance Port (R174): the device addressed, the register address
and the data bytes sent, most significant first, however many they are. -/
structure PortWrite where
  device : DeviceAddr
  address : BitVec 16
  data : List Byte
  deriving DecidableEq, Repr

/-- What the Configuration Loader meets at the EEPROM during one load (R185): a device that does not
acknowledge its address at the first access, or the bytes, from byte address 0 upward, that the device
acknowledges before it stops. -/
inductive Eeprom where
  | absent
  | answers (bytes : List Byte)
  deriving DecidableEq, Repr

/-- The commands of the part.  A constructor's docstring names its row of the opcode table. -/
inductive Instr where
  /-- UPSTREAM_REQUEST (R5) -/
  | upstreamRequest (q : UpRequest)
  /-- ARBITER_GRANT (R113) -/
  | arbiterGrant
  /-- READ_CPL (R118) -/
  | readCpl (c : ReadCompletion)
  /-- WRITE_ACK (R128) -/
  | writeAck (status : LinkStatus)
  /-- CREDIT (R110), of count n -/
  | credit (n : Fin 32)
  /-- LINK_UP (R136) -/
  | linkUp
  /-- LINK_DOWN (R140) -/
  | linkDown
  /-- COMPLETION_TIMER_EXPIRY (R122) of one entry's completion timer -/
  | completionTimerExpiry (entry : EntryNo)
  /-- ACK_TIMER_EXPIRY (R130) of the head of the In-Flight Write List -/
  | ackTimerExpiry
  /-- DISCARD_TIMER_EXPIRY (R58) of one entry's discard timer -/
  | discardTimerExpiry (entry : EntryNo)
  /-- RESERVATION_TIMER_EXPIRY (R82) of one entry's reservation timer -/
  | reservationTimerExpiry (entry : EntryNo)
  /-- WINDOW_COMMIT (R28), a CMD write with code 0x01 -/
  | windowCommit (device : DeviceAddr) (arg : Byte)
  /-- REQUESTER_COMMIT (R74), a CMD write with code 0x02 -/
  | requesterCommit (device : DeviceAddr) (arg : Byte)
  /-- LOG_POP (R166), a CMD write with code 0x03 -/
  | logPop (device : DeviceAddr) (arg : Byte)
  /-- LOG_CLEAR (R167), a CMD write with code 0x04 -/
  | logClear (device : DeviceAddr) (arg : Byte)
  /-- COUNTER_CLEAR (R71), a CMD write with code 0x05 -/
  | counterClear (device : DeviceAddr) (arg : Byte)
  /-- ENTRY_VIEW (R68), a CMD write with code 0x06 -/
  | entryView (device : DeviceAddr) (arg : Byte)
  /-- QUIESCE (R178), a CMD write with code 0x07 -/
  | quiesce (device : DeviceAddr) (arg : Byte)
  /-- RESUME (R180), a CMD write with code 0x08 -/
  | resume (device : DeviceAddr) (arg : Byte)
  /-- PATH_RESET (R182), a CMD write with code 0x09 -/
  | pathReset (device : DeviceAddr) (arg : Byte)
  /-- LINK_RESET (R138), a CMD write with code 0x0A -/
  | linkReset (device : DeviceAddr) (arg : Byte)
  /-- UNNAMED_COMMAND_CODE (R176), a CMD write with any other code -/
  | unnamedCommandCode (device : DeviceAddr) (code arg : Byte)
  /-- ALERT_ENABLE_WRITE (R170) -/
  | alertEnableWrite (device : DeviceAddr) (value : Word)
  /-- MNT_STATUS_READ (R175), of which the part sends `count` data bytes -/
  | mntStatusRead (device : DeviceAddr) (count : Nat)
  /-- REGISTER_WRITE (R175) -/
  | registerWrite (w : PortWrite)
  /-- POWER_ON_RESET (R184): the power-on reset input is asserted -/
  | powerOnReset
  /-- POWER_ON_RESET_DEASSERTION (R184), with the level of the two address straps -/
  | powerOnResetDeassertion (straps : BitVec 2)
  /-- END_OF_LOAD (R186), with what the loader met at the EEPROM -/
  | endOfLoad (eeprom : Eeprom)
  /-- BUS_RESET (R183): the bus reset input is asserted -/
  | busReset
  /-- TIMEBASE_TICK (R188) -/
  | timebaseTick
  deriving DecidableEq, Repr

end Sys2Proof
end

