-- ==== Sys2Proof/Config.lean ====
section
/-! DEFINITION. The values the manual leaves open.  Each is an opaque constant: nothing can be proved of
its values, so a claim holds whatever they are. -/

namespace Sys2Proof

/-- The request check that the part computes over requester, command, address and length as received
(R2: "The function is not given in this manual").  Assumption 1. -/
opaque Config.requestCheckCode : RequesterNo → UpCommand → UpAddr → Nat → CheckCode

/-- The data check that the part computes over data bytes in order of ascending address, upstream (R2)
and on the Memory Link (R108, R120): the function is not given.  Assumption 1. -/
opaque Config.dataCheckCode : List Byte → CheckCode

/-- What the 6-bit k field of the window view shows for a disabled window whose k, taken from byte 3 of
an image record, is above 63: the manual gives the field no value there.  Assumption 2. -/
opaque Config.wideWindowSize : Byte → BitVec 6

end Sys2Proof
end

