-- ==== Sys2Proof/WellFormed.lean ====
section
/-! DEFINITION. Which terms of `Instr` stand for an event that can reach the part: the operand relations
that the message and transaction formats of R1, R108, R174 and R176 state. -/

namespace Sys2Proof

/-- The write data are *length* bytes, and present for WRITE only (R1). -/
def UpRequest.wf (q : UpRequest) : Bool :=
  match q.command with
  | .write => q.data.length == q.length
  | .read => q.data.isEmpty
  | .sync => q.data.isEmpty
  | .illegal _ => true

/-- A READ_CPL whose status is not OK carries no data (R108). -/
def ReadCompletion.wf (c : ReadCompletion) : Bool :=
  match c.status with
  | .ok => true
  | _ => c.data.isEmpty

/-- The codes 0x01 to 0x0A name the ten commands of R176. -/
def namesCommand (code : Byte) : Bool := 1 ≤ code.toNat && code.toNat ≤ 10

/-- A complete write of CMD or of ALERT_ENABLE has a row of its own; REGISTER_WRITE is any other
write transaction of the port. -/
def PortWrite.wf (w : PortWrite) : Bool :=
  w.data.length < 4 || !(w.address == 0x0008#16 || w.address == 0x0024#16)

/-- The check of a whole command. -/
def Instr.wf : Instr → Bool
  | .upstreamRequest q => q.wf
  | .arbiterGrant => true
  | .readCpl c => c.wf
  | .writeAck _ => true
  | .credit _ => true
  | .linkUp => true
  | .linkDown => true
  | .completionTimerExpiry _ => true
  | .ackTimerExpiry => true
  | .discardTimerExpiry _ => true
  | .reservationTimerExpiry _ => true
  | .windowCommit _ _ => true
  | .requesterCommit _ _ => true
  | .logPop _ _ => true
  | .logClear _ _ => true
  | .counterClear _ _ => true
  | .entryView _ _ => true
  | .quiesce _ _ => true
  | .resume _ _ => true
  | .pathReset _ _ => true
  | .linkReset _ _ => true
  | .unnamedCommandCode _ code _ => !namesCommand code
  | .alertEnableWrite _ _ => true
  | .mntStatusRead _ count => 1 ≤ count
  | .registerWrite w => w.wf
  | .powerOnReset => true
  | .powerOnResetDeassertion _ => true
  | .endOfLoad _ => true
  | .busReset => true
  | .timebaseTick => true

end Sys2Proof
end

