-- ==== Sys2Proof/Decode.lean ====
section
/-! DEFINITION. No row of spec/opcode_table.json gives bits: the part takes events, not encoded words, so
no word spells a command.  Assumption 3. -/

namespace Sys2Proof

/-- The command that a word of the opcode table's bits spells: none, for the table gives no row bits. -/
def decodeTableWord (_nbits _w : Nat) : Option Instr := none

end Sys2Proof
end

