-- ==== Sys2Proof/Machine/State.lean ====
section
/-! DEFINITION. The state of the part, block by block as the block table of 00_scope.md lists them, the
reasons a command can stop, and the state the power-on reset leaves. -/

namespace Sys2Proof.Machine

/-- The operating state (R177). -/
inductive OpState where
  | loading
  | active
  | quiescing
  | quiesced
  deriving DecidableEq, Repr

/-- The load status (R185); PENDING from power-on reset to the end of the load (R184). -/
inductive LoadStatus where
  | pending
  | loaded
  | absent
  | bad
  deriving DecidableEq, Repr

/-- The outcome of a command in CMD_STATUS (R176). -/
inductive CmdOutcome where
  | ok
  | badArg
  | badWindow
  | state
  deriving DecidableEq, Repr

/-- The link state (R134). -/
inductive LinkState where
  | down
  | up
  | resetting
  deriving DecidableEq, Repr

/-- The write mode of a window (R18); `unnamed` is the one value of the field that names no mode. -/
inductive WriteMode where
  | posted
  | nonposted
  | readOnly
  | unnamed
  deriving DecidableEq, Repr

/-- The fetch mode of a window (R23). -/
inductive FetchMode where
  | exact
  | line
  deriving DecidableEq, Repr

/-- The hold mode of a window (R24). -/
inductive HoldMode where
  | coherent
  | asFetched
  deriving DecidableEq, Repr

/-- The miss policy (R12, R25). -/
inductive MissPolicy where
  | fault
  | fill
  deriving DecidableEq, Repr

/-- A window record, and the window staging record (R18, R26). -/
structure Window where
  enabled : Bool
  upBase : UpAddr
  /-- the size field holds k, for a window of 2^k bytes; 6 bits wide in staging, 8 in an image record -/
  k : BitVec 8
  target : DownAddr
  /-- the requester mask: bit r for requester r -/
  mask : Word
  writeMode : WriteMode
  fetchMode : FetchMode
  holdMode : HoldMode
  deriving DecidableEq, Repr

/-- Power-on values of a window record (R19). -/
def Window.powerOn : Window :=
  { enabled := false, upBase := 0, k := 0, target := 0, mask := 0, writeMode := .posted,
    fetchMode := .exact, holdMode := .coherent }

/-- The Window Table with its two global settings (R18, R19, R25, R26). -/
structure WindowTable where
  windows : Vector Window 12
  staging : Window
  missPolicy : MissPolicy
  missLogging : Bool
  deriving DecidableEq, Repr

/-- A requester record (R70).  The reservation of a requester is the reserved-for field of an entry,
"seen from the requester's side", and is kept there alone. -/
structure Requester where
  enabled : Bool
  quota : Nat
  held : Nat
  refusals : BitVec 8
  discards : BitVec 8
  deriving DecidableEq, Repr

/-- The requester staging record (R73), whose quota holds any value 0–255. -/
structure RequesterStaging where
  enabled : Bool
  quota : BitVec 8
  deriving DecidableEq, Repr

/-- The Requester Table (R70, R73). -/
structure RequesterTable where
  requesters : Vector Requester 32
  staging : RequesterStaging
  deriving DecidableEq, Repr

/-- The state of a Deferral Table entry (R40). -/
inductive EntryState where
  | free
  | waiting
  | issued
  | held
  | orphaned
  deriving DecidableEq, Repr

/-- The kind of an entry (R36). -/
inductive EntryKind where
  | read
  | npWrite
  | sync
  deriving DecidableEq, Repr

/-- A result of a HELD entry (R37) and a status of a fault record (R162): the two have the same
values. -/
inductive Status where
  | ok
  | poison
  | noMemory
  | refused
  | timeout
  | linkData
  | linkDown
  | writeFailed
  deriving DecidableEq, Repr

/-- The four forms of match key (R43). -/
inductive MatchKey where
  | exactRead (r : RequesterNo) (a : UpAddr) (length : Nat)
  | lineRead (r : RequesterNo) (l : UpLine)
  | npWrite (r : RequesterNo) (a : UpAddr) (length : Nat)
  | sync (r : RequesterNo)
  deriving DecidableEq, Repr

/-- An offset 0–63 and a length within a downstream line (R36). -/
structure Span where
  offset : BitVec 6
  length : Nat
  deriving DecidableEq, Repr

/-- An entry record with the fields of R36 in the order of its table.  An absent field is `none`; the
refetch count and the marks of an entry that has none are 0 and clear (R39). -/
structure Entry where
  state : EntryState
  kind : Option EntryKind
  requester : Option RequesterNo
  window : Option WindowNo
  hold : Option HoldMode
  key : Option MatchKey
  line : Option DownLine
  span : Option Span
  /-- the bytes of the span -/
  data : Option (List Byte)
  result : Option Status
  tag : Option TagNo
  refetch : Nat
  /-- the stale-on-arrival mark -/
  stale : Bool
  /-- the refetch-limit mark -/
  limit : Bool
  pending : Option Nat
  /-- the failure mark -/
  failure : Bool
  completionTimer : Option Nat
  discardTimer : Option Nat
  reservedFor : Option RequesterNo
  reservationTimer : Option Nat
  deriving DecidableEq, Repr

/-- A FREE entry with no reservation: every other field absent, 0 or clear (R39). -/
def Entry.free : Entry :=
  { state := .free, kind := none, requester := none, window := none, hold := none, key := none,
    line := none, span := none, data := none, result := none, tag := none, refetch := 0,
    stale := false, limit := false, pending := none, failure := false, completionTimer := none,
    discardTimer := none, reservedFor := none, reservationTimer := none }

/-- The Deferral Table: 24 entry records and the age order, oldest first (R36, R38). -/
structure DeferralTable where
  entries : Vector Entry 24
  age : List EntryNo
  deriving DecidableEq, Repr

/-- The state of a Posted Write Queue record (R87). -/
inductive WriteState where
  | queued
  | issued
  deriving DecidableEq, Repr

/-- A Posted Write Queue record (R87). -/
structure PostedWrite where
  requester : RequesterNo
  address : DownAddr
  length : Nat
  data : List Byte
  state : WriteState
  deriving DecidableEq, Repr

/-- A tag of the Tag Pool (R116). -/
inductive Tag where
  | free
  | bound (entry : EntryNo)
  | quarantined (requester : RequesterNo) (address : DownAddr) (entry : EntryNo)
  deriving DecidableEq, Repr

/-- What a member of the In-Flight Write List refers to (R127).  The posted members stand in the list in
queue order, so the first of them refers to the head of the queue, the next to the record behind it. -/
inductive FlightRef where
  | posted
  | npWrite (entry : EntryNo)
  deriving DecidableEq, Repr

/-- A member of the In-Flight Write List (R127): the tick of its issue and the ACK_TIMEOUT setting that
stood then, with the ticks counted since (R130), a count that, unlike the Timebase's, does not wrap. -/
structure FlightMember where
  ref : FlightRef
  issueTick : BitVec 32
  ackTimeout : Nat
  elapsed : Nat
  deriving DecidableEq, Repr

/-- The Memory Link Interface: link state, LINK_RESET line, credit count, Tag Pool and In-Flight Write
List, head first (R110, R116, R127, R134). -/
structure MemoryLink where
  state : LinkState
  /-- the LINK_RESET line, true while asserted -/
  linkReset : Bool
  credits : Nat
  tags : Vector Tag 32
  flights : List FlightMember
  deriving DecidableEq, Repr

/-- The 22 kinds of fault record, in the order of R170. -/
inductive FaultKind where
  | reqCheck
  | reqFormat
  | denied
  | unclaimed
  | readPoison
  | readNoMemory
  | readRefused
  | readTimeout
  | lateCompletion
  | unexpectedCompletion
  | linkDataCheck
  | writeFailed
  | writeFateUnknown
  | discard
  | npWriteDiscard
  | npWriteUnreported
  | refetchLimit
  | linkDown
  | ackTimeout
  | quarantineLimit
  | pathResetDiscard
  | imageBad
  deriving DecidableEq, Repr

/-- A fault record (R162); an absent field is `none`. -/
structure FaultRecord where
  kind : FaultKind
  time : BitVec 32
  requester : Option RequesterNo := none
  window : Option WindowNo := none
  up : Option UpAddr := none
  down : Option DownAddr := none
  entry : Option EntryNo := none
  tag : Option TagNo := none
  status : Option Status := none
  count : Option Nat := none
  deriving DecidableEq, Repr

/-- The Fault Unit: the log, oldest first, the OVERFLOW flag, the alert-enable set (bit 0 OVERFLOW, bit n
the kind encoded n) and the ALERT line, true while asserted (R161, R165, R170, R171). -/
structure FaultUnit where
  log : List FaultRecord
  overflow : Bool
  alertEnable : BitVec 23
  alert : Bool
  deriving DecidableEq, Repr

/-- The global settings that have registers of their own or share PATH_CTRL (R187); the miss policy, miss
logging and the alert-enables stand with the blocks that own them. -/
structure Settings where
  discardTime : BitVec 16
  completionTimeout : BitVec 16
  ackTimeout : BitVec 16
  reservationTime : BitVec 10
  writeBurst : BitVec 5
  deriving DecidableEq, Repr

/-- The view snapshot of ENTRY_VIEW (R69): the entry's number, its position in the age order (0 when not
in it) and every field of R36, timers among them. -/
structure Snapshot where
  number : EntryNo
  agePosition : Nat
  entry : Entry
  deriving DecidableEq, Repr

/-- The Maintenance Port and Configuration Loader (R174–R187). -/
structure Maintenance where
  opState : OpState
  loadStatus : LoadStatus
  cmdOutcome : CmdOutcome
  cmdCode : Byte
  accessError : Bool
  /-- the address straps as sampled at the last deassertion of power-on reset -/
  straps : BitVec 2
  settings : Settings
  wvSelect : Byte
  rvSelect : Byte
  tagSelect : Byte
  evIndex : BitVec 5
  snapshot : Snapshot
  deriving DecidableEq, Repr

/-- A FAULT reason code of R4. -/
inductive Reason where
  | check
  | format
  | denied
  | unclaimed
  | noMemory
  | poison
  | refused
  | timeout
  | linkDown
  | linkData
  | writeFailed
  deriving DecidableEq, Repr

/-- A response of the part to a request (R3): DONE with data and its data check, DONE that carries no
data, RETRY, or FAULT with its reason. -/
inductive Response where
  | data (bytes : List Byte) (dataCheck : CheckCode)
  | done
  | retry
  | fault (reason : Reason)
  deriving DecidableEq, Repr

/-- A request message of the part on the Memory Link (R108). -/
inductive LinkRequest where
  | readReq (tag : TagNo) (address : DownAddr) (length : Nat)
  | writeReq (address : DownAddr) (length : Nat) (data : List Byte) (dataCheck : CheckCode)
  deriving DecidableEq, Repr

/-- What the part last drove on its faces.  These latches are the MODEL's own (assumption 4): the manual
gives a response, a message or a read value as the output of one event, and no rule reads them. -/
structure Outputs where
  /-- the response to the last request of the Upstream Bus -/
  response : Option Response
  /-- the last request message sent on the Memory Link -/
  request : Option LinkRequest
  /-- the data bytes of the last MNT_STATUS read, most significant byte first -/
  portRead : List Byte
  deriving DecidableEq, Repr

/-- The state of the part: one field for each block that owns state, the level of the power-on reset
input, the outputs last driven, and the MODEL's queue of commands that wait, first in, first out. -/
structure State where
  /-- Window Table -/
  wt : WindowTable
  /-- Requester Table -/
  rqt : RequesterTable
  /-- the Waiting List of the Reservation Unit, head first (R78) -/
  waiting : List RequesterNo
  /-- Deferral Table, with the reservations placed on its FREE entries -/
  dt : DeferralTable
  /-- Posted Write Queue, oldest first (R87) -/
  pwq : List PostedWrite
  /-- the write streak of the Link Request Arbiter (R112) -/
  streak : Nat
  /-- Memory Link Interface -/
  mli : MemoryLink
  /-- Fault Unit -/
  flt : FaultUnit
  /-- Maintenance Port and Configuration Loader -/
  mnt : Maintenance
  /-- the tick count of the Timebase (R188) -/
  ticks : BitVec 32
  /-- the power-on reset input, true while asserted (R184) -/
  powerOn : Bool
  out : Outputs
  /-- the commands that wait, in the order in which they are taken -/
  pending : List Instr
  deriving DecidableEq, Repr

/-- Why the part stops with a fault. -/
inductive Fault where
  /-- Raised by UPSTREAM_REQUEST for a WRITE whose claiming window has the write-mode value that names no
  mode.  R18 states that an enabled window never has it, so no rule gives the decode an answer there, and
  no run reaches it.  Safe: the model stops where the manual says nothing. -/
  | unnamedWriteMode
  deriving DecidableEq, Repr

/-- Why a command is refused. -/
inductive Refusal where
  /-- Raised by `exec` for a command of the opcode table that has no meaning yet.  Safe: nothing happens.
  No arm of `exec` raises it. -/
  | notModelled (mnemonic : String)
  deriving DecidableEq, Repr

/-- Power-on values of a requester record (R72). -/
def Requester.powerOn : Requester :=
  { enabled := false, quota := 4, held := 0, refusals := 0, discards := 0 }

/-- The alert-enables at reset (R170): all on but REQ_FORMAT 2, DENIED 3, UNCLAIMED 4, READ_NO_MEMORY 6,
READ_REFUSED 7, LATE_COMPLETION 9, DISCARD 14 and REFETCH_LIMIT 17. -/
def FaultUnit.alertEnableReset : BitVec 23 := 0b11111011011110100100011#23

/-- The settings at reset (R187). -/
def Settings.powerOn : Settings :=
  { discardTime := 2048, completionTimeout := 8192, ackTimeout := 8192, reservationTime := 128,
    writeBurst := 4 }

/-- The state right after the power-on reset input has been asserted: each block at the power-on values
of its chapter (R19, R65, R69, R72, R84, R89, R110, R114, R116, R127, R135, R169, R184, R187, R188), the
input still asserted, nothing driven yet, and no command waiting. -/
def State.reset : State :=
  { wt := { windows := Vector.replicate 12 Window.powerOn, staging := Window.powerOn,
            missPolicy := .fault, missLogging := false }
    rqt := { requesters := Vector.replicate 32 Requester.powerOn,
             staging := { enabled := false, quota := 4 } }
    waiting := []
    dt := { entries := Vector.replicate 24 Entry.free, age := [] }
    pwq := []
    streak := 0
    mli := { state := .down, linkReset := false, credits := 0,
             tags := Vector.replicate 32 Tag.free, flights := [] }
    flt := { log := [], overflow := false, alertEnable := FaultUnit.alertEnableReset, alert := false }
    mnt := { opState := .loading, loadStatus := .pending, cmdOutcome := .ok, cmdCode := 0,
             accessError := false, straps := 0, settings := Settings.powerOn, wvSelect := 0,
             rvSelect := 0, tagSelect := 0, evIndex := 0,
             snapshot := { number := 0, agePosition := 0, entry := Entry.free } }
    ticks := 0
    powerOn := true
    out := { response := none, request := none, portRead := [] }
    pending := [] }

end Sys2Proof.Machine
end

