-- ==== Sys2Proof/Machine/Flags.lean ====
section
/-! DEFINITION. The encodings, flags and levels the part computes: statuses and reasons, fault kinds, the
ALERT level, saturating counters, and the encodings of the register window. -/

namespace Sys2Proof.Machine

/-- A READ_CPL status as the part takes it: every encoding beyond the listed ones is REFUSED (R108). -/
def readStatus : LinkStatus → Status
  | .ok => .ok
  | .poison => .poison
  | .noMemory => .noMemory
  | .refused => .refused
  | .other _ => .refused

/-- A WRITE_ACK status as the part takes it: OK and NO_MEMORY are listed, and every other encoding is
REFUSED (R108). -/
def ackStatus : LinkStatus → Status
  | .ok => .ok
  | .noMemory => .noMemory
  | .poison => .refused
  | .refused => .refused
  | .other _ => .refused

/-- The response that delivers a result which is not DONE: FAULT with that reason (R46); `none` for
OK. -/
def Status.reason : Status → Option Reason
  | .ok => none
  | .poison => some .poison
  | .noMemory => some .noMemory
  | .refused => some .refused
  | .timeout => some .timeout
  | .linkData => some .linkData
  | .linkDown => some .linkDown
  | .writeFailed => some .writeFailed

/-- The reason codes of R4. -/
def Reason.code : Reason → Nat
  | .check => 1
  | .format => 2
  | .denied => 3
  | .unclaimed => 4
  | .noMemory => 5
  | .poison => 6
  | .refused => 7
  | .timeout => 8
  | .linkDown => 9
  | .linkData => 10
  | .writeFailed => 11

/-- Statuses and results are encoded as OK 0 and, for the others, the reason codes of R4
(section 10.8). -/
def Status.code (s : Status) : Nat :=
  match s.reason with
  | none => 0
  | some r => r.code

/-- Fault kinds are encoded 1–22 in the order of the table of R170 (section 10.8). -/
def FaultKind.code : FaultKind → Nat
  | .reqCheck => 1
  | .reqFormat => 2
  | .denied => 3
  | .unclaimed => 4
  | .readPoison => 5
  | .readNoMemory => 6
  | .readRefused => 7
  | .readTimeout => 8
  | .lateCompletion => 9
  | .unexpectedCompletion => 10
  | .linkDataCheck => 11
  | .writeFailed => 12
  | .writeFateUnknown => 13
  | .discard => 14
  | .npWriteDiscard => 15
  | .npWriteUnreported => 16
  | .refetchLimit => 17
  | .linkDown => 18
  | .ackTimeout => 19
  | .quarantineLimit => 20
  | .pathResetDiscard => 21
  | .imageBad => 22

/-- The level R171 gives the ALERT line: the log holds a record of an alert-enabled kind, or OVERFLOW is
set with its alert-enable on. -/
def FaultUnit.level (f : FaultUnit) : Bool :=
  f.log.any (fun r => f.alertEnable.getLsbD r.kind.code) || (f.overflow && f.alertEnable.getLsbD 0)

/-- A refusal or discard counter after one more of its causes: it stays at 255 (R71). -/
def countUp (c : BitVec 8) : BitVec 8 := if c = 255#8 then c else c + 1#8

/-- The write streak after one more grant of the write candidate: it stays at 16 (R112). -/
def streakUp (n : Nat) : Nat := min (n + 1) 16

/-- The credit count after a CREDIT of count n: at most 16 (R110). -/
def creditUp (c n : Nat) : Nat := min (c + n) 16

/-- WAITING, ISSUED and HELD: the states matched by repeats and counted in the held count (R40). -/
def Entry.live (e : Entry) : Bool :=
  match e.state with
  | .waiting => true
  | .issued => true
  | .held => true
  | .free => false
  | .orphaned => false

def OpState.code : OpState → Nat
  | .loading => 0
  | .active => 1
  | .quiescing => 2
  | .quiesced => 3

def LoadStatus.code : LoadStatus → Nat
  | .pending => 0
  | .loaded => 1
  | .absent => 2
  | .bad => 3

def CmdOutcome.code : CmdOutcome → Nat
  | .ok => 0
  | .badArg => 1
  | .badWindow => 2
  | .state => 3

def WriteMode.code : WriteMode → Nat
  | .posted => 0
  | .nonposted => 1
  | .readOnly => 2
  | .unnamed => 3

def WriteMode.ofBits (b : BitVec 2) : WriteMode :=
  if b = 0#2 then .posted else if b = 1#2 then .nonposted else if b = 2#2 then .readOnly else .unnamed

def FetchMode.code : FetchMode → Nat
  | .exact => 0
  | .line => 1

def FetchMode.ofBit (b : Bool) : FetchMode := if b then .line else .exact

def HoldMode.code : HoldMode → Nat
  | .coherent => 0
  | .asFetched => 1

def HoldMode.ofBit (b : Bool) : HoldMode := if b then .asFetched else .coherent

def MissPolicy.code : MissPolicy → Nat
  | .fault => 0
  | .fill => 1

def MissPolicy.ofBit (b : Bool) : MissPolicy := if b then .fill else .fault

def LinkState.code : LinkState → Nat
  | .down => 0
  | .up => 1
  | .resetting => 2

def Tag.code : Tag → Nat
  | .free => 0
  | .bound _ => 1
  | .quarantined _ _ _ => 2

def EntryState.code : EntryState → Nat
  | .free => 0
  | .waiting => 1
  | .issued => 2
  | .held => 3
  | .orphaned => 4

def EntryKind.code : EntryKind → Nat
  | .read => 1
  | .npWrite => 2
  | .sync => 3

def MatchKey.code : MatchKey → Nat
  | .exactRead _ _ _ => 1
  | .lineRead _ _ => 2
  | .npWrite _ _ _ => 3
  | .sync _ => 4

def WriteState.code : WriteState → Nat
  | .queued => 1
  | .issued => 2

def FlightRef.code : FlightRef → Nat
  | .posted => 1
  | .npWrite _ => 2

end Sys2Proof.Machine
end

