-- ==== Sys2Proof/Machine/Operands.lean ====
section
/-! DEFINITION. What the part computes from the fields of a request, a window, an entry and the bytes of a
register write or an image: offsets and lines, the two check tests, the window lookup and translation, match
keys and spans. -/

namespace Sys2Proof.Machine

/-- The low 6 bits of an upstream address (R1). -/
def upOffset (a : UpAddr) : BitVec 6 := a.extractLsb' 0 6

/-- The upstream line address: the address with its low 6 bits removed (R1). -/
def upLine (a : UpAddr) : UpLine := a.extractLsb' 6 34

/-- The downstream line address (R11). -/
def downLine (a : DownAddr) : DownLine := a.extractLsb' 6 38

/-- The first byte of an upstream line. -/
def upLineBase (l : UpLine) : UpAddr := l ++ 0#6

/-- The byte at an offset of a downstream line. -/
def downByte (l : DownLine) (o : BitVec 6) : DownAddr := l ++ o

/-- The offset plus the length exceeds 64 (R1, R8). -/
def crossesLine (a : UpAddr) (length : Nat) : Bool := 64 < (upOffset a).toNat + length

/-- A length outside 1–64, or a line crossing (R8). -/
def badExtent (q : UpRequest) : Bool :=
  q.length == 0 || 64 < q.length || crossesLine q.address q.length

/-- The format step's test (R8): a SYNC is tested for its command alone. -/
def malformed (q : UpRequest) : Bool :=
  match q.command with
  | .read => badExtent q
  | .write => badExtent q
  | .sync => false
  | .illegal _ => true

/-- The request check passes: the code received equals the code computed over requester, command, address
and length as received (R2). -/
def requestCheckPasses (q : UpRequest) : Bool :=
  q.requestCheck == Config.requestCheckCode q.requester q.command q.address q.length

/-- The data check of a WRITE passes (R2). -/
def dataCheckPasses (q : UpRequest) : Bool := q.dataCheck == Config.dataCheckCode q.data

/-- An enabled window contains an upstream address at or above its base and below the base plus 2^k
(R11, R20).  A disabled one contains none (R18). -/
def Window.contains (w : Window) (a : UpAddr) : Bool :=
  w.enabled && w.upBase.toNat ≤ a.toNat && a.toNat < w.upBase.toNat + 2 ^ w.k.toNat

/-- The lowest-numbered enabled window that contains the address claims it (R11, R21). -/
def WindowTable.claim (wt : WindowTable) (a : UpAddr) : Option WindowNo :=
  (List.finRange 12).find? (fun n => wt.windows[n].contains a)

/-- The downstream address: target base plus the address minus the upstream base (R11, R20). -/
def Window.translate (w : Window) (a : UpAddr) : DownAddr :=
  BitVec.ofNat 44 (w.target.toNat + (a.toNat - w.upBase.toNat))

/-- The requester is in the window's requester mask (R13). -/
def Window.admits (w : Window) (r : RequesterNo) : Bool := w.mask.getLsbD r.val

/-- The third row of the tests of R28: k in 12–40, both bases multiples of 2^k, a write mode that names
one of the three modes. -/
def Window.legal (w : Window) : Bool :=
  12 ≤ w.k.toNat && w.k.toNat ≤ 40 && w.upBase.toNat % 2 ^ w.k.toNat == 0
    && w.target.toNat % 2 ^ w.k.toNat == 0 && w.writeMode != .unnamed

/-- The match key of a READ under a window (R23, R43). -/
def readKey (w : Window) (q : UpRequest) : MatchKey :=
  match w.fetchMode with
  | .exact => .exactRead q.requester q.address q.length
  | .line => .lineRead q.requester (upLine q.address)

/-- The span a READ fetches (R23, R36): its own bytes, or the whole line. -/
def readSpan (w : Window) (q : UpRequest) : Span :=
  match w.fetchMode with
  | .exact => { offset := upOffset q.address, length := q.length }
  | .line => { offset := 0, length := 64 }

/-- The requester of a match key: every form carries one (R43). -/
def MatchKey.requester : MatchKey → RequesterNo
  | .exactRead r _ _ => r
  | .lineRead r _ => r
  | .npWrite r _ _ => r
  | .sync r => r

/-- The upstream address a fault record takes from a match key (R58, R132): the address of the key, or
the first byte of the line; a SYNC key has none. -/
def MatchKey.address : MatchKey → Option UpAddr
  | .exactRead _ a _ => some a
  | .lineRead _ l => some (upLineBase l)
  | .npWrite _ a _ => some a
  | .sync _ => none

/-- The length of a match key; a LINE key and a SYNC key have none. -/
def MatchKey.length : MatchKey → Option Nat
  | .exactRead _ _ n => some n
  | .npWrite _ _ n => some n
  | .lineRead _ _ => none
  | .sync _ => none

/-- The entry a READ creates, in WAITING (R36, R50). -/
def readEntry (n : WindowNo) (w : Window) (q : UpRequest) : Entry :=
  { Entry.free with
    state := .waiting
    kind := some .read
    requester := some q.requester
    window := some n
    hold := some w.holdMode
    key := some (readKey w q)
    line := some (downLine (w.translate q.address))
    span := some (readSpan w q) }

/-- The entry a WRITE to a NONPOSTED window creates, in WAITING, with its write data (R36, R50). -/
def npWriteEntry (n : WindowNo) (w : Window) (q : UpRequest) : Entry :=
  { Entry.free with
    state := .waiting
    kind := some .npWrite
    requester := some q.requester
    window := some n
    key := some (.npWrite q.requester q.address q.length)
    line := some (downLine (w.translate q.address))
    span := some { offset := upOffset q.address, length := q.length }
    data := some q.data }

/-- The entry a SYNC creates, in WAITING: the pending count is the occupancy of the queue and the failure
mark is clear (R52, R100). -/
def syncEntry (r : RequesterNo) (occupancy : Nat) : Entry :=
  { Entry.free with
    state := .waiting
    kind := some .sync
    requester := some r
    key := some (.sync r)
    pending := some occupancy }

/-- The record a posted WRITE appends to the queue (R16, R87). -/
def postedWrite (w : Window) (q : UpRequest) : PostedWrite :=
  { requester := q.requester, address := w.translate q.address, length := q.length, data := q.data,
    state := .queued }

/-- The downstream address of the first byte of an entry's span (R117). -/
def Entry.down (e : Entry) : Option DownAddr :=
  match e.line, e.span with
  | some l, some sp => some (downByte l sp.offset)
  | _, _ => none

/-- The upstream address of an entry in a fault record (R58, R132). -/
def Entry.up (e : Entry) : Option UpAddr := e.key.bind MatchKey.address

/-- The length of an entry's span; 0 for an entry with none. -/
def Entry.spanLength (e : Entry) : Nat := (e.span.map Span.length).getD 0

/-- The bytes a delivery returns: those of the request's own offset and length, taken from data that begins
at the span's offset (R47). -/
def deliveredBytes (e : Entry) (q : UpRequest) : List Byte :=
  let start := (e.span.map (fun sp => sp.offset.toNat)).getD 0
  ((e.data.getD []).drop ((upOffset q.address).toNat - start)).take q.length

/-- The data check of a READ_CPL passes (R120): the code received equals the code computed over the data
bytes, and there are as many of them as the READ_REQ asked for. -/
def completionCheckPasses (c : ReadCompletion) (e : Entry) : Bool :=
  c.dataCheck == Config.dataCheckCode c.data && c.data.length == e.spanLength

/-- Byte `i` of a list of bytes, 0 past its end. -/
def byteOf (bs : List Byte) (i : Nat) : Byte := bs.getD i 0#8

/-- Two bytes, most significant first. -/
def be16 (bs : List Byte) (i : Nat) : BitVec 16 := byteOf bs i ++ byteOf bs (i + 1)

/-- Four bytes, most significant first. -/
def be32 (bs : List Byte) (i : Nat) : BitVec 32 := be16 bs i ++ be16 bs (i + 2)

/-- A 32-bit word as four bytes, most significant first (R174). -/
def wordBytes (w : Word) : List Byte :=
  [w.extractLsb' 24 8, w.extractLsb' 16 8, w.extractLsb' 8 8, w.extractLsb' 0 8]

end Sys2Proof.Machine
end

