-- ==== Sys2Proof/Machine/Ops.lean ====
section
/-! DEFINITION. The operations the commands share: appending fault records, freeing, offering, withdrawing
and holding entries, accounting for departures from the queue, the freshness rules, the link leaving UP,
the change to QUIESCED, and taking a command at the Maintenance Port. -/

namespace Sys2Proof.Machine

/-! ## Tables -/

/-- Each row of a table replaced by a function of its number and its contents. -/
def mapTable {α : Type} {n : Nat} (f : Fin n → α → α) (v : Vector α n) : Vector α n :=
  Vector.ofFn fun i => f i v[i]

/-- The numbers of the entries with a property, ascending. -/
def entriesWhere (p : Entry → Bool) (es : Vector Entry 24) : List EntryNo :=
  (List.finRange 24).filter fun i => p es[i]

/-- One entry replaced. -/
def DeferralTable.put (i : EntryNo) (e : Entry) (d : DeferralTable) : DeferralTable :=
  { d with entries := d.entries.set i e }

/-! ## Fault records and ALERT -/

/-- The ALERT line takes the level that the log, the flag and the set call for (R171). -/
def FaultUnit.settle (f : FaultUnit) : FaultUnit := { f with alert := f.level }

/-- A record joins the tail of a log of fewer than 16 records (R164).  A full log drops it and sets
OVERFLOW (R165).  The ALERT line follows in the same event (R171). -/
def FaultUnit.append (r : FaultRecord) (f : FaultUnit) : FaultUnit :=
  if f.log.length < 16 then { f with log := f.log ++ [r] }.settle
  else { f with overflow := true }.settle

/-- The records of one event, each tested for room on its own (R164). -/
def FaultUnit.appendAll (rs : List FaultRecord) (f : FaultUnit) : FaultUnit :=
  rs.foldl (fun g r => g.append r) f

/-- A record of a kind, stamped with the tick count that stands (R162), every other field absent. -/
def State.record (k : FaultKind) (s : State) : FaultRecord := { kind := k, time := s.ticks }

/-- The Fault Log takes the records of an event, in order. -/
def State.log (rs : List FaultRecord) (s : State) : State := { s with flt := s.flt.appendAll rs }

/-- A record that carries the fields of an entry which R58, R132 and R156 name: requester, window, both
addresses and the entry number. -/
def State.entryRecord (k : FaultKind) (i : EntryNo) (s : State) : FaultRecord :=
  let e := s.dt.entries[i]
  { s.record k with
    requester := e.requester, window := e.window, up := e.up, down := e.down, entry := some i }

/-- An NP_WRITE_UNREPORTED record (R31, R63): requester, window, downstream address, entry number, and the
status where it is known. -/
def State.unreportedRecord (i : EntryNo) (st : Option Status) (s : State) : FaultRecord :=
  let e := s.dt.entries[i]
  { s.record .npWriteUnreported with
    requester := e.requester, window := e.window, down := e.down, entry := some i, status := st }

/-! ## Requester counts -/

/-- One requester record changed. -/
def RequesterTable.update (r : RequesterNo) (f : Requester → Requester) (t : RequesterTable) :
    RequesterTable :=
  { t with requesters := t.requesters.set r (f t.requesters[r]) }

/-- The held count of each requester falls by the number of its live entries among those listed (R41). -/
def RequesterTable.lowerHeld (es : Vector Entry 24) (is : List EntryNo) (t : RequesterTable) :
    RequesterTable :=
  { t with
    requesters := mapTable
      (fun r q =>
        { q with held := q.held - is.countP (fun i => es[i].live && es[i].requester == some r) })
      t.requesters }

/-- The reservation of an entry ends: both its fields become none. -/
def Entry.unreserved (e : Entry) : Entry := { e with reservedFor := none, reservationTimer := none }

/-! ## Freeing and offering entries -/

/-- Each listed entry loses the content of its request, stops its timers and leaves the age order (R39). -/
def DeferralTable.clear (is : List EntryNo) (d : DeferralTable) : DeferralTable :=
  { entries := mapTable (fun i e => if i ∈ is then Entry.free else e) d.entries
    age := d.age.filter (fun i => i ∉ is) }

/-- One newly freed entry offered to the Reservation Unit: reserved for the head of the Waiting List, which
leaves the list, with a reservation timer of `time` ticks; or left unreserved when the list is empty (R80).
The pair is the Waiting List and the entries. -/
def offerEntry (time : Nat) (p : List RequesterNo × Vector Entry 24) (i : EntryNo) :
    List RequesterNo × Vector Entry 24 :=
  match p.1 with
  | [] => p
  | r :: rest =>
    (rest, p.2.set i { p.2[i] with reservedFor := some r, reservationTimer := some time })

/-- Entries offered in the order listed, each to the head as the one before it left the list (R80). -/
def offerAll (time : Nat) (is : List EntryNo) (p : List RequesterNo × Vector Entry 24) :
    List RequesterNo × Vector Entry 24 :=
  is.foldl (offerEntry time) p

/-- The listed entries offered to the Reservation Unit with the RESERVATION_TIME that stands (R42, R80). -/
def State.offer (is : List EntryNo) (s : State) : State :=
  let p := offerAll s.mnt.settings.reservationTime.toNat is (s.waiting, s.dt.entries)
  { s with waiting := p.1, dt := { s.dt with entries := p.2 } }

/-- The listed entries become FREE and leave their requesters' held counts (R39, R41). -/
def State.release (is : List EntryNo) (s : State) : State :=
  { s with rqt := s.rqt.lowerHeld s.dt.entries is, dt := s.dt.clear is }

/-- Every entry is FREE, a reserved one included (R42, R178). -/
def State.allFree (s : State) : Bool :=
  (List.finRange 24).all fun i => s.dt.entries[i].state == .free

/-- QUIESCING and QUIESCED turn new work away (R16, R48, R52, R177). -/
def State.turnsAway (s : State) : Bool :=
  s.mnt.opState == .quiescing || s.mnt.opState == .quiesced

/-- A QUIESCING part becomes QUIESCED when every entry is FREE and the queue is empty (R179). -/
def State.settleQuiesce (s : State) : State :=
  if s.mnt.opState = .quiescing ∧ s.allFree = true ∧ s.pwq = [] then
    { s with mnt := { s.mnt with opState := .quiesced } }
  else s

/-- One entry becomes FREE with the effects of R41 and R42. -/
def State.freeEntry (i : EntryNo) (s : State) : State :=
  ((s.release [i]).offer [i]).settleQuiesce

/-! ## Entering HELD -/

/-- An entry enters HELD with a result: its discard timer starts, and its tag, its completion timer and its
stale-on-arrival mark end (R54, R57).  Its data stays as it is. -/
def Entry.enterHeld (result : Status) (discardTime : Nat) (e : Entry) : Entry :=
  { e with
    state := .held, result := some result, tag := none, completionTimer := none, stale := false,
    discardTimer := some discardTime }

/-! ## Withdrawal -/

/-- What withdrawal makes of one entry (R60). -/
def Entry.withdrawn (e : Entry) : Entry :=
  match e.state with
  | .waiting => Entry.free
  | .issued => { e with state := .orphaned }
  | .held => Entry.free
  | .orphaned => e
  | .free => e

/-- An entry that withdrawal makes FREE (R60). -/
def Entry.withdrawalFrees (e : Entry) : Bool := e.state == .waiting || e.state == .held

/-- A HELD NP_WRITE, whose withdrawal is recorded (R31, R60). -/
def Entry.heldNpWrite (e : Entry) : Bool := e.state == .held && e.kind == some .npWrite

/-- The entries of a set that its withdrawal makes FREE, ascending. -/
def State.withdrawalFreed (p : Entry → Bool) (s : State) : List EntryNo :=
  entriesWhere (fun e => p e && e.withdrawalFrees) s.dt.entries

/-- The records of a withdrawal, in ascending entry number (R60). -/
def State.withdrawalRecords (p : Entry → Bool) (s : State) : List FaultRecord :=
  (entriesWhere (fun e => p e && e.heldNpWrite) s.dt.entries).map
    fun i => s.unreportedRecord i s.dt.entries[i].result

/-- Withdrawal of a set of entries from their requesters, in one event, with its records (R60).  The freed
entries are not yet offered. -/
def State.withdraw (p : Entry → Bool) (s : State) : State :=
  let freed := s.withdrawalFreed p
  { s with
    rqt := s.rqt.lowerHeld s.dt.entries (entriesWhere p s.dt.entries)
    dt := { entries := mapTable (fun _ e => if p e then e.withdrawn else e) s.dt.entries
            age := s.dt.age.filter (fun i => i ∉ freed) }
    flt := s.flt.appendAll (s.withdrawalRecords p) }

/-! ## Creation -/

/-- The entry reserved for a requester, if any (R70). -/
def DeferralTable.reservedEntry (r : RequesterNo) (d : DeferralTable) : Option EntryNo :=
  (List.finRange 24).find? fun i =>
    d.entries[i].state == .free && d.entries[i].reservedFor == some r

/-- The lowest-numbered FREE entry that carries no reservation (R49).  R83 says that a miss which follows the
expiry of its requester's reservation takes that very entry if it became unreserved; with a lower-numbered
unreserved entry FREE as well the model takes the lower-numbered one: a DESIGN CHOICE, unsafe (assumption 27). -/
def DeferralTable.unreservedEntry (d : DeferralTable) : Option EntryNo :=
  (List.finRange 24).find? fun i => d.entries[i].state == .free && d.entries[i].reservedFor == none

/-- The entry a creation takes: the one reserved for the requester if there is one, otherwise the
lowest-numbered unreserved FREE one (R49). -/
def DeferralTable.available (r : RequesterNo) (d : DeferralTable) : Option EntryNo :=
  match d.reservedEntry r with
  | some i => some i
  | none => d.unreservedEntry

/-- The outcome of the quota and availability tests (R48, R49, R52). -/
inductive Admission where
  | overQuota
  | noEntry
  | take (i : EntryNo)
  deriving DecidableEq, Repr

/-- The third and fourth tests of R48. -/
def State.admission (r : RequesterNo) (s : State) : Admission :=
  if s.rqt.requesters[r].quota ≤ s.rqt.requesters[r].held then .overQuota
  else
    match s.dt.available r with
    | none => .noEntry
    | some i => .take i

/-- The refusal counter of a requester rises by one unless at 255 (R49, R71). -/
def State.countRefusal (r : RequesterNo) (s : State) : State :=
  { s with rqt := s.rqt.update r fun q => { q with refusals := countUp q.refusals } }

/-- A requester joins the tail of the Waiting List unless it is on it (R78). -/
def joinList (r : RequesterNo) (l : List RequesterNo) : List RequesterNo :=
  if r ∈ l then l else l ++ [r]

/-- The chosen entry is filled and put in WAITING (R50): it joins the tail of the age order, the held count
rises by one, a reservation it carried is consumed, and its requester leaves the Waiting List. -/
def State.create (i : EntryNo) (e : Entry) (r : RequesterNo) (s : State) : State :=
  { s with
    dt := { entries := s.dt.entries.set i e, age := s.dt.age ++ [i] }
    rqt := s.rqt.update r fun q => { q with held := q.held + 1 }
    waiting := s.waiting.filter (fun q => q ≠ r) }

/-! ## The response -/

/-- The response of the transaction (R3). -/
def State.answer (a : Response) (s : State) : State :=
  { s with out := { s.out with response := some a } }

/-! ## The freshness rules -/

/-- A COHERENT READ entry of the line: the entries a write at its ordering point may act on (R152, R153). -/
def Entry.fresheningReaches (l : DownLine) (e : Entry) : Bool :=
  e.kind == some .read && e.hold == some .coherent && e.line == some l

/-- A refetch returns an entry to WAITING (R154). -/
def Entry.refetched (e : Entry) : Entry :=
  { e with state := .waiting, data := none, result := none, refetch := e.refetch + 1, discardTimer := none }

/-- What a write at its ordering point makes of one entry (R153). -/
def Entry.freshened (l : DownLine) (e : Entry) : Entry :=
  if e.fresheningReaches l then
    match e.state with
    | .held =>
      if e.result = some .ok then
        if e.refetch < 3 then e.refetched else { e with limit := true }
      else e
    | .issued => { e with stale := true }
    | .waiting => e
    | .orphaned => e
    | .free => e
  else e

/-- The write meets the entry at its refetch limit with the mark still clear (R153, R156). -/
def Entry.reportsLimit (l : DownLine) (e : Entry) : Bool :=
  e.fresheningReaches l && e.state == .held && e.result == some .ok && 3 ≤ e.refetch && !e.limit

/-- A REFETCH_LIMIT record of an entry (R156). -/
def State.limitRecord (i : EntryNo) (s : State) : FaultRecord :=
  { s.entryRecord .refetchLimit i with count := some s.dt.entries[i].refetch }

/-- The freshness rules act on every entry at the ordering point of a write to a line; their records stand
in ascending entry number (R149, R153). -/
def State.freshen (l : DownLine) (s : State) : State :=
  { s with
    dt := { s.dt with entries := mapTable (fun _ e => e.freshened l) s.dt.entries }
    flt := s.flt.appendAll
      ((entriesWhere (fun e => e.reportsLimit l) s.dt.entries).map fun i => s.limitRecord i) }

/-! ## Departures from the Posted Write Queue -/

/-- What the departure of a record of requester `r` makes of one entry (R101, R102): a WAITING SYNC with a
count above 0 is marked if the departure failed and the record was its requester's, its count falls by one,
and at 0 it becomes HELD. -/
def Entry.accounted (r : RequesterNo) (failed : Bool) (discardTime : Nat) (e : Entry) : Entry :=
  if e.state = .waiting ∧ e.kind = some .sync then
    match e.pending with
    | some (n + 1) =>
      let marked := e.failure || (failed && e.requester == some r)
      let e' := { e with failure := marked, pending := some n }
      if n = 0 then e'.enterHeld (if marked then .writeFailed else .ok) discardTime else e'
    | some 0 => e
    | none => e
  else e

/-- The departure of the queue's head, handed to the SYNC entries (R97). -/
def State.depart (r : RequesterNo) (failed : Bool) (s : State) : State :=
  { s with
    pwq := s.pwq.tail
    dt := { s.dt with
            entries := mapTable
              (fun _ e => e.accounted r failed s.mnt.settings.discardTime.toNat) s.dt.entries } }

/-! ## The link and the tags -/

/-- The link goes from UP to RESETTING: LINK_RESET is asserted and the credit count becomes 0 (R137). -/
def MemoryLink.leaveUp (m : MemoryLink) : MemoryLink :=
  { m with state := .resetting, linkReset := true, credits := 0 }

/-- The lowest-numbered FREE tag (R117). -/
def MemoryLink.lowestFreeTag (m : MemoryLink) : Option TagNo :=
  (List.finRange 32).find? fun t => m.tags[t] == .free

/-- How many tags have a given state, by its encoding: 0 FREE, 1 BOUND, 2 QUARANTINED (R133). -/
def MemoryLink.countTags (code : Nat) (m : MemoryLink) : Nat :=
  (List.finRange 32).countP fun t => m.tags[t].code == code

/-- One tag changed. -/
def MemoryLink.setTag (t : TagNo) (x : Tag) (m : MemoryLink) : MemoryLink :=
  { m with tags := m.tags.set t x }

/-- The head's time since its issue has reached the ACK_TIMEOUT setting it recorded (R130). -/
def FlightMember.due (f : FlightMember) : Bool := f.ackTimeout ≤ f.elapsed

/-! ## The Maintenance Port -/

/-- The part's own device address: 0x58 plus the value of the straps (R174). -/
def Maintenance.deviceAddress (m : Maintenance) : DeviceAddr := 0x58#7 + m.straps.setWidth 7

/-- The part takes a transaction that addresses it, unless the power-on reset input is asserted (R174). -/
def State.portTakes (device : DeviceAddr) (s : State) : Bool :=
  !s.powerOn && device == s.mnt.deviceAddress

/-- CMD_STATUS takes the outcome of a command together with its code (R176). -/
def State.cmdStatus (code : Byte) (o : CmdOutcome) (s : State) : State :=
  { s with mnt := { s.mnt with cmdOutcome := o, cmdCode := code } }

/-- A command taken at the port: in LOADING it is refused with STATE; otherwise it is carried out, and its
outcome is written to CMD_STATUS in the same event (R176). -/
def State.takeCommand (code : Byte) (act : State → CmdOutcome × State) (s : State) : State :=
  if s.mnt.opState = .loading then s.cmdStatus code .state
  else (act s).2.cmdStatus code (act s).1

/-- An access error sets ACCESS_ERROR (R175). -/
def State.accessError (s : State) : State := { s with mnt := { s.mnt with accessError := true } }

end Sys2Proof.Machine
end

