-- ==== Sys2Proof/Machine/Arbiter.lean ====
section
/-! DEFINITION. ARBITER_GRANT: the candidates, the choice and the grant of the Link Request Arbiter
(section 6.3), with the hazard block (section 8.2). -/

namespace Sys2Proof.Machine

/-- The write candidate: the oldest QUEUED record (R111). -/
def oldestQueued (q : List PostedWrite) : Option PostedWrite := q.find? fun w => w.state == .queued

/-- The oldest QUEUED record becomes ISSUED and keeps its place (R92). -/
def issueOldest : List PostedWrite → List PostedWrite
  | [] => []
  | w :: rest =>
    if w.state = .queued then { w with state := .issued } :: rest else w :: issueOldest rest

/-- A QUEUED record has the entry's downstream line (R150). -/
def hazardBlocked (q : List PostedWrite) (e : Entry) : Bool :=
  q.any fun w => w.state == .queued && e.line == some (downLine w.address)

/-- The In-Flight Write List holds fewer than 16 members (R111). -/
def MemoryLink.hasRoom (m : MemoryLink) : Bool := m.flights.length < 16

/-- The write candidate is eligible (R111). -/
def State.writeEligible (s : State) : Bool :=
  (oldestQueued s.pwq).isSome && s.mli.state == .up && 0 < s.mli.credits && s.mli.hasRoom

/-- A WAITING READ or NP_WRITE entry is eligible (R111). -/
def State.deferralEligible (i : EntryNo) (s : State) : Bool :=
  let e := s.dt.entries[i]
  e.state == .waiting && 0 < s.mli.credits && !hazardBlocked s.pwq e
    && ((e.kind == some .read && s.mli.lowestFreeTag.isSome)
      || (e.kind == some .npWrite && s.mli.hasRoom))

/-- The oldest eligible deferral candidate (R112). -/
def State.oldestDeferral (s : State) : Option EntryNo := s.dt.age.find? fun i => s.deferralEligible i

/-- What a grant decision chooses. -/
inductive Grant where
  | write (w : PostedWrite)
  | entry (i : EntryNo)
  | nothing
  deriving DecidableEq, Repr

/-- The write candidate if it is eligible and either the streak is below WRITE_BURST or no deferral
candidate is eligible; otherwise the oldest eligible deferral candidate (R112).  A grant is made only while
the link is UP (R113). -/
def State.grantDecision (s : State) : Grant :=
  if s.mli.state ≠ .up then .nothing
  else
    match s.oldestDeferral with
    | some i =>
      if s.writeEligible ∧ s.streak < s.mnt.settings.writeBurst.toNat then
        (oldestQueued s.pwq).elim .nothing .write
      else .entry i
    | none => if s.writeEligible then (oldestQueued s.pwq).elim .nothing .write else .nothing

/-- A WRITE_REQ with the data check the part computes over its data (R108). -/
def writeRequest (a : DownAddr) (length : Nat) (data : List Byte) : LinkRequest :=
  .writeReq a length data (Config.dataCheckCode data)

/-- A write joins the tail of the In-Flight Write List with the tick of its issue and the ACK_TIMEOUT of
that moment, and consumes a credit (R113, R127). -/
def State.joinFlights (ref : FlightRef) (s : State) : MemoryLink :=
  { s.mli with
    credits := s.mli.credits - 1
    flights := s.mli.flights ++
      [{ ref := ref, issueTick := s.ticks, ackTimeout := s.mnt.settings.ackTimeout.toNat, elapsed := 0 }] }

/-- The grant of the write candidate (R92, R112, R113). -/
def State.grantWrite (w : PostedWrite) (s : State) : State :=
  { s with
    pwq := issueOldest s.pwq
    streak := streakUp s.streak
    mli := s.joinFlights .posted
    out := { s.out with request := some (writeRequest w.address w.length w.data) } }

/-- The grant of a READ entry, to which tag t is bound (R53, R113, R117). -/
def State.grantRead (i : EntryNo) (t : TagNo) (s : State) : State :=
  let e := s.dt.entries[i]
  { s with
    streak := 0
    mli := { s.mli.setTag t (.bound i) with credits := s.mli.credits - 1 }
    dt := s.dt.put i
      { e with
        state := .issued, tag := some t
        completionTimer := some s.mnt.settings.completionTimeout.toNat }
    out := { s.out with request := some (.readReq t (e.down.getD 0) e.spanLength) } }

/-- The grant of an NP_WRITE entry, which is the ordering point of its write (R53, R113, R149). -/
def State.grantNpWrite (i : EntryNo) (s : State) : State :=
  let e := s.dt.entries[i]
  let s' := s.freshen (e.line.getD 0)
  { s' with
    streak := 0
    mli := s.joinFlights (.npWrite i)
    dt := s'.dt.put i { e with state := .issued }
    out := { s.out with
             request := some (writeRequest (e.down.getD 0) e.spanLength (e.data.getD [])) } }

/-- The grant of a deferral entry (R113). -/
def State.grantEntry (i : EntryNo) (s : State) : State :=
  if s.dt.entries[i].kind = some .npWrite then s.grantNpWrite i
  else
    match s.mli.lowestFreeTag with
    | some t => s.grantRead i t
    | none => s

/-- One grant decision and its grant. -/
def State.grant (s : State) : State :=
  match s.grantDecision with
  | .write w => s.grantWrite w
  | .entry i => s.grantEntry i
  | .nothing => s

/-- ARBITER_GRANT (R113): one decision of the Link Request Arbiter.  A decision that finds no candidate
eligible grants nothing (R112). -/
def execArbiterGrant (s : State) : Host.Outcome State Fault Refusal := .next s.grant

end Sys2Proof.Machine
end

