-- ==== Sys2Proof/Machine/Timers.lean ====
section
/-! DEFINITION. The timers: the expiry of completion, acknowledgement, discard and reservation timers, each an
event of its own at the tick at which its time is reached, and the tick of the Timebase, which no timer whose time
is reached outlasts (R188).  An expiry command that names a timer which is not running, or whose time is not
reached, stands for no event and changes nothing (assumption 5). -/

namespace Sys2Proof.Machine

/-! ## COMPLETION_TIMER_EXPIRY -/

/-- The quarantine limit (R125): with 8 tags QUARANTINED and the link UP, the link goes to RESETTING with a
QUARANTINE_LIMIT record. -/
def State.quarantineLimit (t : TagNo) (s : State) : State :=
  if 8 ≤ s.mli.countTags 2 ∧ s.mli.state = .up then
    { s.log [{ s.record .quarantineLimit with tag := some t, count := some (s.mli.countTags 2) }] with
      mli := s.mli.leaveUp }
  else s

/-- The completion timer of entry i expires while the entry is bound to tag t (R122). -/
def State.readTimeout (i : EntryNo) (t : TagNo) (s : State) : State :=
  let e := s.dt.entries[i]
  let tag := Tag.quarantined (e.requester.getD 0) (e.down.getD 0) i
  let s' := s.log [{ s.entryRecord .readTimeout i with tag := some t }]
  let s'' := { s' with mli := s.mli.setTag t tag }
  let s''' :=
    if e.state = .issued then
      { s'' with dt := s.dt.put i (e.enterHeld .timeout s.mnt.settings.discardTime.toNat) }
    else s''.freeEntry i
  s'''.quarantineLimit t

/-- The completion timer of an entry has reached its time. -/
def Entry.completionDue (e : Entry) : Bool :=
  (e.state == .issued || e.state == .orphaned) && e.completionTimer == some 0

/-- The expiry of the completion timer of entry i, if its time is reached. -/
def State.expireCompletion (i : EntryNo) (s : State) : State :=
  if s.dt.entries[i].completionDue then
    match s.dt.entries[i].tag with
    | some t => s.readTimeout i t
    | none => s
  else s

/-- COMPLETION_TIMER_EXPIRY (R122). -/
def execCompletionTimerExpiry (i : EntryNo) (s : State) : Host.Outcome State Fault Refusal :=
  .next (s.expireCompletion i)

/-! ## ACK_TIMER_EXPIRY -/

/-- The ACK_TIMEOUT record of the head of the In-Flight Write List (R130, R132). -/
def State.ackTimeoutRecord (ref : FlightRef) (s : State) : FaultRecord :=
  match ref with
  | .posted =>
    { s.record .ackTimeout with
      requester := s.pwq.head?.map PostedWrite.requester
      down := s.pwq.head?.map PostedWrite.address }
  | .npWrite i => { s.entryRecord .ackTimeout i with up := none }

/-- The acknowledgement timer of the head expires while the link is UP (R130).  The timer reaching its time
in another link state makes no record and no change. -/
def State.ackTimeout (s : State) : State :=
  match s.mli.flights with
  | [] => s
  | f :: _ =>
    if f.due ∧ s.mli.state = .up then
      { s.log [s.ackTimeoutRecord f.ref] with mli := s.mli.leaveUp }
    else s

/-- ACK_TIMER_EXPIRY (R130). -/
def execAckTimerExpiry (s : State) : Host.Outcome State Fault Refusal := .next s.ackTimeout

/-! ## DISCARD_TIMER_EXPIRY -/

/-- The record of a discard (R58): NP_WRITE_DISCARD for an NP_WRITE, DISCARD for a READ or SYNC, with the
entry's result as its status. -/
def State.discardRecord (i : EntryNo) (s : State) : FaultRecord :=
  let e := s.dt.entries[i]
  { s.entryRecord (if e.kind = some .npWrite then .npWriteDiscard else .discard) i with
    status := e.result }

/-- The discard counter of the entry's requester rises by one unless at 255 (R58, R71). -/
def State.countDiscard (r : Option RequesterNo) (s : State) : State :=
  match r with
  | some r => { s with rqt := s.rqt.update r fun q => { q with discards := countUp q.discards } }
  | none => s

/-- The discard timer of a HELD entry expires: the entry is freed without an answer to anyone (R58). -/
def State.discard (i : EntryNo) (s : State) : State :=
  ((s.log [s.discardRecord i]).countDiscard s.dt.entries[i].requester).freeEntry i

/-- The expiry of the discard timer of entry i, if its time is reached. -/
def State.expireDiscard (i : EntryNo) (s : State) : State :=
  if s.dt.entries[i].state = .held ∧ s.dt.entries[i].discardTimer = some 0 then s.discard i else s

/-- DISCARD_TIMER_EXPIRY (R58). -/
def execDiscardTimerExpiry (i : EntryNo) (s : State) : Host.Outcome State Fault Refusal :=
  .next (s.expireDiscard i)

/-! ## RESERVATION_TIMER_EXPIRY -/

/-- A reservation timer expires: the requester loses the reservation, and the entry is handled as a newly
offered one (R82). -/
def State.reservationExpiry (i : EntryNo) (s : State) : State :=
  State.offer [i] { s with dt := s.dt.put i s.dt.entries[i].unreserved }

/-- The expiry of the reservation timer of entry i, if its time is reached. -/
def State.expireReservation (i : EntryNo) (s : State) : State :=
  if s.dt.entries[i].state = .free ∧ s.dt.entries[i].reservationTimer = some 0 then s.reservationExpiry i
  else s

/-- RESERVATION_TIMER_EXPIRY (R82). -/
def execReservationTimerExpiry (i : EntryNo) (s : State) : Host.Outcome State Fault Refusal :=
  .next (s.expireReservation i)

/-! ## TIMEBASE_TICK -/

/-- A timer of the part, by the record it belongs to: an entry, or the head of the In-Flight Write List. -/
inductive Timer where
  | completion (i : EntryNo)
  | acknowledgement
  | discard (i : EntryNo)
  | reservation (i : EntryNo)
  deriving DecidableEq, Repr

/-- The expiry of a timer, if its time is reached. -/
def State.expire (s : State) (t : Timer) : State :=
  match t with
  | .completion i => s.expireCompletion i
  | .acknowledgement => s.ackTimeout
  | .discard i => s.expireDiscard i
  | .reservation i => s.expireReservation i

/-- The timers that may have reached their time, in the order in which a tick takes the expiries that the queue
has not given: by kind in the order of the table's rows, then by entry number (assumption 29). -/
def State.dueTimers (s : State) : List Timer :=
  (entriesWhere (fun e => e.completionTimer == some 0) s.dt.entries).map .completion
    ++ [.acknowledgement]
    ++ (entriesWhere (fun e => e.discardTimer == some 0) s.dt.entries).map .discard
    ++ (entriesWhere (fun e => e.reservationTimer == some 0) s.dt.entries).map .reservation

/-- Every expiry that is due at the tick that stands is taken, each as an event of its own (R188). -/
def State.takeDue (s : State) : State := s.dueTimers.foldl State.expire s

/-- One tick counted by a timer that is running. -/
def tickTimer (t : Option Nat) : Option Nat := t.map (· - 1)

/-- One tick counted by the timers of an entry. -/
def Entry.tick (e : Entry) : Entry :=
  { e with
    completionTimer := tickTimer e.completionTimer
    discardTimer := tickTimer e.discardTimer
    reservationTimer := tickTimer e.reservationTimer }

/-- One tick counted by a member of the In-Flight Write List, from its own issue (R130). -/
def FlightMember.tick (f : FlightMember) : FlightMember := { f with elapsed := f.elapsed + 1 }

/-- One more tick counted: the 32-bit count rises by one and wraps, and every running timer counts it (R188). -/
def State.tick (s : State) : State :=
  { s with
    ticks := s.ticks + 1
    dt := { s.dt with entries := mapTable (fun _ e => e.tick) s.dt.entries }
    mli := { s.mli with flights := s.mli.flights.map FlightMember.tick } }

/-- TIMEBASE_TICK (R188).  A timer expires at the tick at which its time is reached, so the expiries still due
at the tick that ends are taken, at its count, before the next one is counted: a timer of s ticks never lives to
see tick s + 1.  The queue orders an expiry among the other events of its tick, as R56, R59, R83 and R157 let
either come first (assumption 29); the expiry of R131 is taken by the WRITE_ACK that calls for it.  While the power-on reset input is asserted the count stands at 0, from which
it starts at the deassertion (R184; assumption 6). -/
def execTimebaseTick (s : State) : Host.Outcome State Fault Refusal :=
  .next (if s.powerOn then s else s.takeDue.tick)

end Sys2Proof.Machine
end

