-- ==== Sys2Proof/Machine/Link.lean ====
section
/-! DEFINITION. The messages and indications of the Memory Link: READ_CPL (section 6.4), WRITE_ACK
(section 6.5), CREDIT (section 6.2), LINK_UP and LINK_DOWN (chapter 7).  While the power-on reset input is
asserted, the part ignores each of them (R184). -/

namespace Sys2Proof.Machine

/-! ## READ_CPL -/

/-- The fault record kind a completion to a BOUND tag calls for (R119, R121); none for a good answer. -/
def completionKind (checkOk : Bool) : Status → Option FaultKind
  | .ok => if checkOk then none else some .linkDataCheck
  | .poison => some .readPoison
  | .noMemory => some .readNoMemory
  | .refused => some .readRefused
  | .timeout => none
  | .linkData => none
  | .linkDown => none
  | .writeFailed => none

/-- The result a completion other than a good one gives an ISSUED entry (R119): its status, or LINK_DATA
for a failed data check. -/
def completionResult (checkOk : Bool) : Status → Status
  | .ok => if checkOk then .ok else .linkData
  | .poison => .poison
  | .noMemory => .noMemory
  | .refused => .refused
  | .timeout => .timeout
  | .linkData => .linkData
  | .linkDown => .linkDown
  | .writeFailed => .writeFailed

/-- The record of a completion to a BOUND tag, with the fields of R132. -/
def State.completionRecord (checkOk : Bool) (t : TagNo) (i : EntryNo) (st : Status) (s : State) :
    List FaultRecord :=
  ((completionKind checkOk st).map fun k =>
    { s.entryRecord k i with tag := some t, status := some st }).toList

/-- The outcome a completion gives an ISSUED entry (R119, R155). -/
def Entry.completed (checkOk : Bool) (st : Status) (data : List Byte) (discardTime : Nat) (e : Entry) :
    Entry :=
  if completionResult checkOk st = .ok then
    if e.stale then
      if e.refetch < 3 then
        { e with
          state := .waiting, tag := none, completionTimer := none, stale := false, data := none,
          result := none, refetch := e.refetch + 1 }
      else { e.enterHeld .ok discardTime with data := some data, limit := true }
    else { e.enterHeld .ok discardTime with data := some data }
  else e.enterHeld (completionResult checkOk st) discardTime

/-- A marked good completion meets the entry at its refetch limit with the limit mark clear (R155, R156). -/
def Entry.completionReportsLimit (checkOk : Bool) (st : Status) (e : Entry) : Bool :=
  completionResult checkOk st == .ok && e.stale && 3 ≤ e.refetch && !e.limit

/-- A completion to a tag BOUND to an ISSUED entry (R119). -/
def State.completeIssued (checkOk : Bool) (c : ReadCompletion) (i : EntryNo) (s : State) : State :=
  let e := s.dt.entries[i]
  let st := readStatus c.status
  { s with
    mli := s.mli.setTag c.tag .free
    dt := s.dt.put i (e.completed checkOk st c.data s.mnt.settings.discardTime.toNat)
    flt := s.flt.appendAll
      (s.completionRecord checkOk c.tag i st
        ++ (if e.completionReportsLimit checkOk st then [s.limitRecord i] else [])) }

/-- A completion to a tag BOUND to an ORPHANED entry (R121). -/
def State.completeOrphan (checkOk : Bool) (c : ReadCompletion) (i : EntryNo) (s : State) : State :=
  let s' := s.log (s.completionRecord checkOk c.tag i (readStatus c.status))
  { s' with mli := s.mli.setTag c.tag .free }.freeEntry i

/-- A late completion (R123): the tag becomes FREE and the completion is dropped. -/
def State.lateCompletion (c : ReadCompletion) (r : RequesterNo) (a : DownAddr) (i : EntryNo)
    (s : State) : State :=
  let s' := s.log
    [{ s.record .lateCompletion with
       requester := some r, down := some a, entry := some i, tag := some c.tag,
       status := some (readStatus c.status) }]
  { s' with mli := s.mli.setTag c.tag .free }

/-- An unexpected completion (R124): dropped. -/
def State.unexpectedCompletion (c : ReadCompletion) (s : State) : State :=
  s.log [{ s.record .unexpectedCompletion with
           tag := some c.tag, status := some (readStatus c.status) }]

/-- A READ_CPL dispatched by the state of the tag it names (R118), given the outcome of the data check
against the entry the tag is bound to.  A tag is BOUND to no entry but an ISSUED or ORPHANED one (R116). -/
def State.completion (checkOk : Bool) (c : ReadCompletion) (s : State) : State :=
  match s.mli.tags[c.tag] with
  | .free => s.unexpectedCompletion c
  | .quarantined r a i => s.lateCompletion c r a i
  | .bound i =>
    match s.dt.entries[i].state with
    | .issued => s.completeIssued checkOk c i
    | .orphaned => s.completeOrphan checkOk c i
    | .free => s
    | .waiting => s
    | .held => s

/-- The data check of a completion, tested for completions to BOUND tags only (R120). -/
def State.completionOk (c : ReadCompletion) (s : State) : Bool :=
  match s.mli.tags[c.tag] with
  | .bound i => completionCheckPasses c s.dt.entries[i]
  | .free => false
  | .quarantined _ _ _ => false

/-- READ_CPL (R118). -/
def execReadCpl (c : ReadCompletion) (s : State) : Host.Outcome State Fault Refusal :=
  .next (if s.powerOn then s else s.completion (s.completionOk c) c)

/-! ## WRITE_ACK -/

/-- A WRITE_ACK that reaches an ISSUED record at the head of the queue (R93, R94). -/
def State.ackPosted (st : Status) (s : State) : State :=
  match s.pwq with
  | [] => s
  | w :: _ =>
    let record : FaultRecord :=
      { s.record .writeFailed with
        requester := some w.requester, down := some w.address, status := some st }
    ((s.log (if st = .ok then [] else [record])).depart w.requester (st != .ok)).settleQuiesce

/-- A WRITE_ACK that reaches an NP_WRITE entry (R55, R63). -/
def State.ackNpWrite (st : Status) (i : EntryNo) (s : State) : State :=
  let e := s.dt.entries[i]
  match e.state with
  | .issued => { s with dt := s.dt.put i (e.enterHeld st s.mnt.settings.discardTime.toNat) }
  | .orphaned => (s.log [s.unreportedRecord i (some st)]).freeEntry i
  | .free => s
  | .waiting => s
  | .held => s

/-- A WRITE_ACK reaches the head of the In-Flight Write List, which leaves the list (R128), or finds the
list empty and is dropped (R129). -/
def State.ack (status : LinkStatus) (s : State) : State :=
  match s.mli.flights with
  | [] => s.log [{ s.record .unexpectedCompletion with status := some (ackStatus status) }]
  | f :: rest =>
    let s' := { s with mli := { s.mli with flights := rest } }
    match f.ref with
    | .posted => s'.ackPosted (ackStatus status)
    | .npWrite i => s'.ackNpWrite (ackStatus status) i

/-- WRITE_ACK (R128).  If the member that it makes the head has already reached its time, the expiry of R130 is
taken at once, as an event of its own after the acknowledgement (R131). -/
def execWriteAck (status : LinkStatus) (s : State) : Host.Outcome State Fault Refusal :=
  .next (if s.powerOn then s else (s.ack status).ackTimeout)

/-! ## CREDIT, LINK_UP -/

/-- A CREDIT of count n raises the count, to at most 16, while the link is UP (R110). -/
def State.takeCredit (n : Nat) (s : State) : State :=
  if s.mli.state = .up then { s with mli := { s.mli with credits := creditUp s.mli.credits n } } else s

/-- CREDIT (R110). -/
def execCredit (n : Fin 32) (s : State) : Host.Outcome State Fault Refusal :=
  .next (if s.powerOn then s else s.takeCredit n.val)

/-- A LINK_UP makes a DOWN link UP and is dropped in UP or RESETTING (R136). -/
def State.comeUp (s : State) : State :=
  if s.mli.state = .down then { s with mli := { s.mli with state := .up } } else s

/-- LINK_UP (R136). -/
def execLinkUp (s : State) : Host.Outcome State Fault Refusal :=
  .next (if s.powerOn then s else s.comeUp)

/-! ## LINK_DOWN -/

/-- What entering DOWN makes of an entry that is no member of the In-Flight Write List (R141). -/
def Entry.linkLost (discardTime : Nat) (e : Entry) : Entry :=
  match e.state with
  | .waiting => e.enterHeld .linkDown discardTime
  | .issued => if e.kind = some .read then e.enterHeld .linkDown discardTime else e
  | .orphaned => if e.kind = some .read then Entry.free else e
  | .held => e
  | .free => e

/-- What entering DOWN makes of the NP_WRITE entry a member refers to (R143). -/
def Entry.flightLost (discardTime : Nat) (e : Entry) : Entry :=
  match e.state with
  | .issued => e.enterHeld .linkDown discardTime
  | .orphaned => Entry.free
  | .waiting => e
  | .held => e
  | .free => e

/-- One member of the In-Flight Write List leaves it as the link enters DOWN, with its record (R143). -/
def State.settleFlight (s : State) (ref : FlightRef) : State :=
  match ref with
  | .posted =>
    match s.pwq with
    | [] => s
    | w :: _ =>
      (s.log [{ s.record .writeFateUnknown with
                requester := some w.requester, down := some w.address }]).depart w.requester true
  | .npWrite i =>
    let e := s.dt.entries[i]
    let records := if e.state = .orphaned then [s.unreportedRecord i none] else []
    { s.log records with dt := s.dt.put i (e.flightLost s.mnt.settings.discardTime.toNat) }

/-- The link, the credits and the tags as the link enters DOWN (R140, R142–R144). -/
def MemoryLink.enterDown (m : MemoryLink) : MemoryLink :=
  { state := .down, linkReset := false, credits := 0, tags := Vector.replicate 32 Tag.free,
    flights := m.flights }

/-- The entries that entering DOWN frees: the ORPHANED ones (R141, R143), ascending. -/
def State.orphans (s : State) : List EntryNo := entriesWhere (fun e => e.state == .orphaned) s.dt.entries

/-- The first part of entering DOWN: the LINK_DOWN record, then the effects of R141 and R142. -/
def State.loseLink (s : State) : State :=
  let s' := s.log [{ s.record .linkDown with count := some s.mli.flights.length }]
  { s' with
    mli := s.mli.enterDown
    dt := { s.dt with
            entries := mapTable (fun _ e => e.linkLost s.mnt.settings.discardTime.toNat) s.dt.entries } }

/-- The second part: the members of the In-Flight Write List are settled in list order, and the list is
empty (R143). -/
def State.loseFlights (s : State) : State :=
  let s' := (s.mli.flights.map FlightMember.ref).foldl State.settleFlight s
  { s' with mli := { s'.mli with flights := [] } }

/-- The entries that have become FREE leave the age order and are offered together, in ascending entry
number, after all the rest (R39, R144). -/
def State.enterDown (s : State) : State :=
  let s' := s.loseLink.loseFlights
  let freed := s.orphans.filter fun i => s'.dt.entries[i].state == .free
  (State.offer freed
    { s' with dt := { s'.dt with age := s'.dt.age.filter (fun i => i ∉ freed) } }).settleQuiesce

/-- LINK_DOWN (R140): dropped while the link is already DOWN. -/
def execLinkDown (s : State) : Host.Outcome State Fault Refusal :=
  .next (if s.powerOn ∨ s.mli.state = .down then s else s.enterDown)

end Sys2Proof.Machine
end

