-- ==== Sys2Proof/Machine/Commands.lean ====
section
/-! DEFINITION. The commands of the Maintenance Port: one operation for each command of the table of R176.
Each `…Act` gives the outcome and the state it leaves in an operating state other than LOADING; the shared
`takeCommand` makes the LOADING test and writes CMD_STATUS. -/

namespace Sys2Proof.Machine

/-! ## The acts -/

/-- The window, requester or entry number an argument byte names, when it is in range. -/
def numbered (n : Nat) (arg : Byte) : Option (Fin n) :=
  if h : arg.toNat < n then some ⟨arg.toNat, h⟩ else none

/-- An accepted WINDOW_COMMIT of window n: the window takes the staging record whole (R29), and the entries
whose window field is n are revoked, offered and counted (R30, R31). -/
def State.windowCommitted (n : WindowNo) (s : State) : State :=
  let p : Entry → Bool := fun e => e.window == some n
  let s' := s.withdraw p
  (State.offer (s.withdrawalFreed p)
    { s' with wt := { s.wt with windows := s.wt.windows.set n s.wt.staging } }).settleQuiesce

/-- WINDOW_COMMIT past the LOADING test (R28). -/
def windowCommitAct (arg : Byte) (s : State) : CmdOutcome × State :=
  match numbered 12 arg with
  | none => (.badArg, s)
  | some n =>
    if s.wt.staging.enabled && !s.wt.staging.legal then (.badWindow, s) else (.ok, s.windowCommitted n)

/-- The committed fields of a requester record (R74). -/
def State.writeRequester (r : RequesterNo) (s : State) : State :=
  { s with
    rqt := s.rqt.update r fun q =>
      { q with enabled := s.rqt.staging.enabled, quota := s.rqt.staging.quota.toNat } }

/-- The reservation of a requester is released: its entry stays FREE with no reservation (R76). -/
def DeferralTable.releaseReservation (r : RequesterNo) (d : DeferralTable) : DeferralTable :=
  { d with
    entries := mapTable (fun _ e => if e.reservedFor = some r then e.unreserved else e) d.entries }

/-- The disabling of requester r (R76): its entries are withdrawn, its held count becomes 0, it leaves the
Waiting List, its reservation is released, and the released and freed entries are offered together in
ascending entry number. -/
def State.disableRequester (r : RequesterNo) (s : State) : State :=
  let p : Entry → Bool := fun e => e.requester == some r
  let offered := entriesWhere (fun e => (p e && e.withdrawalFrees) || e.reservedFor == some r) s.dt.entries
  let s' := s.withdraw p
  (State.offer offered
    { s' with
      rqt := s'.rqt.update r fun q => { q with held := 0 }
      waiting := s.waiting.filter (fun q => q ≠ r)
      dt := s'.dt.releaseReservation r }).settleQuiesce

/-- REQUESTER_COMMIT past the LOADING test (R74–R76). -/
def requesterCommitAct (arg : Byte) (s : State) : CmdOutcome × State :=
  match numbered 32 arg with
  | none => (.badArg, s)
  | some r =>
    if s.rqt.staging.quota.toNat < 1 ∨ 24 < s.rqt.staging.quota.toNat then (.badArg, s)
    else if s.rqt.staging.enabled then (.ok, s.writeRequester r)
    else (.ok, (s.writeRequester r).disableRequester r)

/-- LOG_POP past the LOADING test (R166). -/
def logPopAct (s : State) : CmdOutcome × State :=
  match s.flt.log with
  | [] => (.state, s)
  | _ :: rest => (.ok, { s with flt := { s.flt with log := rest }.settle })

/-- LOG_CLEAR past the LOADING test (R167). -/
def logClearAct (s : State) : CmdOutcome × State :=
  (.ok, { s with flt := { s.flt with log := [], overflow := false }.settle })

/-- COUNTER_CLEAR past the LOADING test (R71). -/
def counterClearAct (arg : Byte) (s : State) : CmdOutcome × State :=
  match numbered 32 arg with
  | none => (.badArg, s)
  | some r =>
    (.ok, { s with rqt := s.rqt.update r fun q => { q with refusals := 0, discards := 0 } })

/-- The position of an entry in the age order: 1 for the head, 0 for an entry not in it (R69). -/
def DeferralTable.agePosition (i : EntryNo) (d : DeferralTable) : Nat :=
  if i ∈ d.age then d.age.idxOf i + 1 else 0

/-- The whole of an entry, captured (R68, R69). -/
def DeferralTable.capture (i : EntryNo) (d : DeferralTable) : Snapshot :=
  { number := i, agePosition := d.agePosition i, entry := d.entries[i] }

/-- ENTRY_VIEW past the LOADING test (R68). -/
def entryViewAct (arg : Byte) (s : State) : CmdOutcome × State :=
  match numbered 24 arg with
  | none => (.badArg, s)
  | some i => (.ok, { s with mnt := { s.mnt with snapshot := s.dt.capture i } })

/-- QUIESCE past the LOADING test (R178): an ACTIVE part becomes QUIESCING, or at once QUIESCED. -/
def quiesceAct (s : State) : CmdOutcome × State :=
  if s.mnt.opState = .active then
    (.ok, State.settleQuiesce { s with mnt := { s.mnt with opState := .quiescing } })
  else (.state, s)

/-- RESUME past the LOADING test (R180). -/
def resumeAct (s : State) : CmdOutcome × State :=
  if s.turnsAway then (.ok, { s with mnt := { s.mnt with opState := .active } })
  else (.state, s)

/-- The NP_WRITE entries whose freeing by a path reset is recorded, with the status of each: the result of a
HELD one, none for an ISSUED or ORPHANED one (R67). -/
def Entry.pathResetReports (e : Entry) : Bool :=
  e.kind == some .npWrite && (e.state == .held || e.state == .issued || e.state == .orphaned)

/-- The records of a path reset (R67, R96), in their order (R164). -/
def State.pathResetRecords (s : State) : List FaultRecord :=
  (entriesWhere Entry.pathResetReports s.dt.entries).map
      (fun i => s.unreportedRecord i
        (if s.dt.entries[i].state = .held then s.dt.entries[i].result else none))
    ++ (if s.pwq = [] then []
        else [{ s.record .pathResetDiscard with count := some s.pwq.length }])

/-- PATH_RESET past the LOADING test (R182, R67, R84, R96, R145). -/
def pathResetAct (s : State) : CmdOutcome × State :=
  (.ok,
    State.settleQuiesce
      { s.log s.pathResetRecords with
        dt := { entries := Vector.replicate 24 Entry.free, age := [] }
        pwq := []
        waiting := []
        rqt := { s.rqt with requesters := mapTable (fun _ q => { q with held := 0 }) s.rqt.requesters }
        streak := 0
        mli :=
          { state := if s.mli.state = .up then .resetting else s.mli.state
            linkReset := s.mli.linkReset || s.mli.state == .up
            credits := 0
            tags := Vector.replicate 32 Tag.free
            flights := [] } })

/-- LINK_RESET past the LOADING test (R138). -/
def linkResetAct (s : State) : CmdOutcome × State :=
  if s.mli.state = .up then (.ok, { s with mli := s.mli.leaveUp }) else (.state, s)

/-- A code that names no command is refused with BAD_ARG and acts on nothing (R176). -/
def unnamedAct (s : State) : CmdOutcome × State := (.badArg, s)

/-- A write of CMD (R176): the command its code names is carried out. -/
def State.commandWrite (code arg : Byte) (s : State) : State :=
  s.takeCommand code
    (match code.toNat with
     | 1 => windowCommitAct arg
     | 2 => requesterCommitAct arg
     | 3 => logPopAct
     | 4 => logClearAct
     | 5 => counterClearAct arg
     | 6 => entryViewAct arg
     | 7 => quiesceAct
     | 8 => resumeAct
     | 9 => pathResetAct
     | 10 => linkResetAct
     | _ => unnamedAct)

/-! ## The rows -/

/-- WINDOW_COMMIT (R28). -/
def execWindowCommit (device : DeviceAddr) (arg : Byte) (s : State) : Host.Outcome State Fault Refusal :=
  .next (if s.portTakes device then s.takeCommand 0x01 (windowCommitAct arg) else s)

/-- REQUESTER_COMMIT (R74). -/
def execRequesterCommit (device : DeviceAddr) (arg : Byte) (s : State) :
    Host.Outcome State Fault Refusal :=
  .next (if s.portTakes device then s.takeCommand 0x02 (requesterCommitAct arg) else s)

/-- LOG_POP (R166); its argument field is ignored. -/
def execLogPop (device : DeviceAddr) (_arg : Byte) (s : State) : Host.Outcome State Fault Refusal :=
  .next (if s.portTakes device then s.takeCommand 0x03 logPopAct else s)

/-- LOG_CLEAR (R167); its argument field is ignored. -/
def execLogClear (device : DeviceAddr) (_arg : Byte) (s : State) : Host.Outcome State Fault Refusal :=
  .next (if s.portTakes device then s.takeCommand 0x04 logClearAct else s)

/-- COUNTER_CLEAR (R71). -/
def execCounterClear (device : DeviceAddr) (arg : Byte) (s : State) : Host.Outcome State Fault Refusal :=
  .next (if s.portTakes device then s.takeCommand 0x05 (counterClearAct arg) else s)

/-- ENTRY_VIEW (R68). -/
def execEntryView (device : DeviceAddr) (arg : Byte) (s : State) : Host.Outcome State Fault Refusal :=
  .next (if s.portTakes device then s.takeCommand 0x06 (entryViewAct arg) else s)

/-- QUIESCE (R178); its argument field is ignored. -/
def execQuiesce (device : DeviceAddr) (_arg : Byte) (s : State) : Host.Outcome State Fault Refusal :=
  .next (if s.portTakes device then s.takeCommand 0x07 quiesceAct else s)

/-- RESUME (R180); its argument field is ignored. -/
def execResume (device : DeviceAddr) (_arg : Byte) (s : State) : Host.Outcome State Fault Refusal :=
  .next (if s.portTakes device then s.takeCommand 0x08 resumeAct else s)

/-- PATH_RESET (R182); its argument field is ignored. -/
def execPathReset (device : DeviceAddr) (_arg : Byte) (s : State) : Host.Outcome State Fault Refusal :=
  .next (if s.portTakes device then s.takeCommand 0x09 pathResetAct else s)

/-- LINK_RESET (R138); its argument field is ignored. -/
def execLinkReset (device : DeviceAddr) (_arg : Byte) (s : State) : Host.Outcome State Fault Refusal :=
  .next (if s.portTakes device then s.takeCommand 0x0A linkResetAct else s)

/-- UNNAMED_COMMAND_CODE (R176).  A term whose code does name a command is a write of CMD all the same, and
that command is carried out. -/
def execUnnamedCommandCode (device : DeviceAddr) (code arg : Byte) (s : State) :
    Host.Outcome State Fault Refusal :=
  .next (if s.portTakes device then s.commandWrite code arg else s)

end Sys2Proof.Machine
end

