-- ==== Sys2Proof/Machine/Views.lean ====
section
/-! DEFINITION. The register window read (section 10.8): the value of every mapped register, the views of
every block among them (R27, R69, R77, R99, R133, R173), and the bytes a read transaction returns (R174).
The opcode table has one row for a read, that of MNT_STATUS, the one read that changes state; every other
register is read through these functions of the state (assumption 7). -/

namespace Sys2Proof.Machine

/-- A field of a register: a number placed at a bit position, cut to its width. -/
def field (lo width value : Nat) : Word := BitVec.ofNat 32 ((value % 2 ^ width) <<< lo)

/-- A one-bit field. -/
def flag (lo : Nat) (b : Bool) : Word := field lo 1 b.toNat

/-- The k field of the window view; a k above 63, which only an image record can give a disabled window, has
no value there (assumption 2). -/
def viewSize (k : BitVec 8) : Nat := if k.toNat < 64 then k.toNat else (Config.wideWindowSize k).toNat

/-- A window record laid out as WS_CTRL. -/
def Window.ctrlWord (w : Window) : Word :=
  flag 0 w.enabled ||| field 2 6 (viewSize w.k) ||| field 8 2 w.writeMode.code
    ||| field 10 1 w.fetchMode.code ||| field 11 1 w.holdMode.code
    ||| field 12 8 (w.upBase.toNat >>> 32) ||| field 20 12 (w.target.toNat >>> 32)

/-- The window that WV_SELECT selects, for a window number 0–11 (R27). -/
def State.viewedWindow (s : State) : Option Window :=
  (numbered 12 s.mnt.wvSelect).map fun n => s.wt.windows[n]

/-- The requester that RV_SELECT selects, for a requester number 0–31 (R77). -/
def State.viewedRequester (s : State) : Option RequesterNo := numbered 32 s.mnt.rvSelect

/-- The tag that TAG_SELECT selects, for a tag number 0–31 (R133). -/
def State.viewedTag (s : State) : Option Tag :=
  (numbered 32 s.mnt.tagSelect).map fun t => s.mli.tags[t]

/-- MNT_STATUS. -/
def State.mntStatus (s : State) : Word :=
  field 0 2 s.mnt.opState.code ||| field 2 2 s.mnt.loadStatus.code ||| flag 4 s.mnt.accessError
    ||| field 8 6 s.waiting.length ||| field 16 7 s.mnt.deviceAddress.toNat

/-- CMD_STATUS. -/
def State.cmdStatusWord (s : State) : Word :=
  field 0 2 s.mnt.cmdOutcome.code ||| field 8 8 s.mnt.cmdCode.toNat

/-- PATH_CTRL. -/
def State.pathCtrl (s : State) : Word :=
  field 0 5 s.mnt.settings.writeBurst.toNat ||| field 8 1 s.wt.missPolicy.code ||| flag 9 s.wt.missLogging

/-- RV_STATE. -/
def State.requesterWord (s : State) : Word :=
  match s.viewedRequester with
  | none => 0
  | some r =>
    let q := s.rqt.requesters[r]
    flag 0 q.enabled ||| field 3 5 q.quota ||| field 8 5 q.held ||| field 16 8 q.refusals.toNat
      ||| field 24 8 q.discards.toNat

/-- The position of a requester on the Waiting List: 1 for the head, 0 for one not on it (R77). -/
def waitingPosition (r : RequesterNo) (l : List RequesterNo) : Nat :=
  if r ∈ l then l.idxOf r + 1 else 0

/-- RV_RESERVE; 31 stands for no reservation. -/
def State.reservationWord (s : State) : Word :=
  match s.viewedRequester with
  | none => 0
  | some r =>
    let (entry, ticks) :=
      match s.dt.reservedEntry r with
      | none => (31, 0)
      | some i => (i.val, s.dt.entries[i].reservationTimer.getD 0)
    field 0 5 entry ||| field 8 10 ticks ||| field 24 6 (waitingPosition r s.waiting)

/-- A byte of the line, as the data words of the snapshot show it: bytes outside the span read 0. -/
def Entry.lineByte (e : Entry) (k : Nat) : Byte :=
  let start := (e.span.map fun sp => sp.offset.toNat).getD 0
  if start ≤ k ∧ k < start + e.spanLength then byteOf (e.data.getD []) (k - start) else 0

/-- The running timer of an entry: its encoding and its remaining ticks. -/
def Entry.runningTimer (e : Entry) : Nat × Nat :=
  match e.completionTimer, e.discardTimer, e.reservationTimer with
  | some t, _, _ => (1, t)
  | none, some t, _ => (2, t)
  | none, none, some t => (3, t)
  | none, none, none => (0, 0)

/-- The presence of each field of R36 that may be absent, in the order of its table (assumption 13).  A
reserved-for field of none, in a FREE entry without a reservation, counts as absent, and its timer with it: a
DESIGN CHOICE, unsafe (assumption 28). -/
def Entry.presence (e : Entry) : List Bool :=
  let isRead := e.kind == some .read
  [e.kind.isSome, e.requester.isSome, e.window.isSome, e.hold.isSome, e.key.isSome, e.line.isSome,
    e.span.isSome, e.data.isSome, e.result.isSome, e.tag.isSome, isRead, isRead, isRead, e.pending.isSome,
    e.kind == some .sync, e.completionTimer.isSome, e.discardTimer.isSome, e.reservedFor.isSome,
    e.reservationTimer.isSome]

/-- A list of bits as a number, bit 0 first. -/
def bitsNat : List Bool → Nat
  | [] => 0
  | b :: rest => b.toNat + 2 * bitsNat rest

/-- One word of the ENTRY_VIEW snapshot (R69, section 10.8). -/
def Snapshot.word (v : Snapshot) (w : Nat) : Word :=
  let e := v.entry
  let key := ((e.key.bind MatchKey.address).map BitVec.toNat).getD 0
  let line := (e.line.map fun l => (downByte l 0).toNat).getD 0
  if w < 16 then
    e.lineByte (4 * w + 3) ++ e.lineByte (4 * w + 2) ++ e.lineByte (4 * w + 1) ++ e.lineByte (4 * w)
  else if w = 16 then
    field 0 5 v.number.val ||| field 5 3 e.state.code ||| field 8 2 ((e.kind.map EntryKind.code).getD 0)
      ||| field 10 5 ((e.requester.map Fin.val).getD 0) ||| field 15 4 ((e.window.map Fin.val).getD 0)
      ||| field 19 1 ((e.hold.map HoldMode.code).getD 0) ||| field 20 4 ((e.result.map Status.code).getD 0)
      ||| field 24 2 e.refetch ||| flag 26 e.stale ||| flag 27 e.limit ||| flag 28 e.failure
  else if w = 17 then
    field 0 6 (e.pending.getD 0) ||| field 8 5 ((e.tag.map Fin.val).getD 0) ||| field 13 5 v.agePosition
      ||| field 18 5 ((e.reservedFor.map Fin.val).getD 0) ||| field 24 2 e.runningTimer.1
  else if w = 18 then
    field 0 16 e.runningTimer.2 ||| field 16 6 ((e.span.map fun sp => sp.offset.toNat).getD 0)
      ||| field 22 7 e.spanLength ||| field 29 3 ((e.key.map MatchKey.code).getD 0)
  else if w = 19 then field 0 32 key
  else if w = 20 then
    field 0 8 (key >>> 32) ||| field 8 7 ((e.key.bind MatchKey.length).getD 0) ||| field 20 12 (line >>> 32)
  else if w = 21 then field 0 32 line
  else if w = 22 then BitVec.ofNat 32 (bitsNat e.presence)
  else 0

/-- The ISSUED records of the queue. -/
def issuedCount (q : List PostedWrite) : Nat := q.countP fun w => w.state == .issued

/-- PQ_VIEW (R99). -/
def State.queueWord (s : State) : Word :=
  field 0 6 s.pwq.length ||| field 8 5 (issuedCount s.pwq)
    ||| field 16 2 ((s.pwq.head?.map fun w => w.state.code).getD 0)
    ||| field 20 5 ((s.pwq.head?.map fun w => w.requester.val).getD 0)

/-- The downstream address of the queue's head, 0 for none. -/
def State.queueHeadAddress (s : State) : Nat := (s.pwq.head?.map fun w => w.address.toNat).getD 0

/-- LINK_VIEW (R133). -/
def State.linkWord (s : State) : Word :=
  field 0 2 s.mli.state.code ||| field 2 5 s.mli.credits ||| field 7 5 s.streak
    ||| field 12 5 s.mli.flights.length ||| field 17 2 ((s.mli.flights.head?.map fun f => f.ref.code).getD 0)
    ||| field 19 5
      (match s.mli.flights.head?.map FlightMember.ref with
       | some (.npWrite i) => i.val
       | some .posted => 0
       | none => 0)

/-- LINK_TAGS (R133). -/
def State.tagsWord (s : State) : Word :=
  field 0 6 (s.mli.countTags 0) ||| field 8 6 (s.mli.countTags 1) ||| field 16 6 (s.mli.countTags 2)

/-- LINK_HEAD_TICKS (R133): the ticks left to the head, 0 once its time has passed. -/
def State.headTicksWord (s : State) : Word :=
  match s.mli.flights with
  | [] => 0
  | f :: _ => field 0 16 (f.ackTimeout - f.elapsed) ||| flag 16 true

/-- TAG_VIEW (R133). -/
def State.tagWord (s : State) : Word :=
  match s.viewedTag with
  | none => 0
  | some .free => 0
  | some (.bound i) => field 0 2 1 ||| field 4 5 i.val
  | some (.quarantined r a i) =>
    field 0 2 2 ||| field 4 5 i.val ||| field 10 5 r.val ||| field 16 12 (a.toNat >>> 32)

/-- TAG_ADDR (R133). -/
def State.tagAddress (s : State) : Word :=
  match s.viewedTag with
  | none => 0
  | some .free => 0
  | some (.bound _) => 0
  | some (.quarantined _ a _) => field 0 32 a.toNat

/-- The presence of the eight further fields of a fault record, in the order in which LOG_STATUS names them.
Read by `bitsNat`, the first is the lowest bit: a DESIGN CHOICE (assumption 26). -/
def FaultRecord.presence (r : FaultRecord) : List Bool :=
  [r.requester.isSome, r.window.isSome, r.up.isSome, r.down.isSome, r.entry.isSome, r.tag.isSome,
    r.status.isSome, r.count.isSome]

/-- LOG_STATUS (R173).  Section 10.8 gives bits 20:13 to the eight presence bits "in that order" without saying at
which end it begins; the model has requester at bit 13 and count at bit 20: a DESIGN CHOICE, unsafe
(assumption 26). -/
def State.logStatus (s : State) : Word :=
  field 0 5 s.flt.log.length ||| flag 5 s.flt.overflow ||| flag 6 s.flt.alert
    ||| (match s.flt.log with
         | [] => 0
         | r :: _ =>
           field 8 5 r.kind.code ||| field 13 8 (bitsNat r.presence)
             ||| field 24 8 ((r.up.map BitVec.toNat).getD 0 >>> 32))

/-- LOG_FIELDS (R173). -/
def State.logFields (s : State) : Word :=
  match s.flt.log with
  | [] => 0
  | r :: _ =>
    field 0 5 ((r.requester.map Fin.val).getD 0) ||| field 5 4 ((r.window.map Fin.val).getD 0)
      ||| field 9 5 ((r.entry.map Fin.val).getD 0) ||| field 14 5 ((r.tag.map Fin.val).getD 0)
      ||| field 19 4 ((r.status.map Status.code).getD 0) ||| field 23 7 (r.count.getD 0)

/-- An address of the head record, 0 when absent or the log is empty. -/
def State.logAddress (f : FaultRecord → Option Nat) (s : State) : Nat :=
  ((s.flt.log.head?.bind f)).getD 0

/-- The value of a register (section 10.8); an unmapped address reads 0 (R175). -/
def State.readRegister (a : BitVec 16) (s : State) : Word :=
  match a.toNat with
  | 0x0000 => 0x24320100#32
  | 0x0004 => s.mntStatus
  | 0x0008 => s.cmdStatusWord
  | 0x0010 => s.mnt.settings.discardTime.setWidth 32
  | 0x0014 => s.mnt.settings.completionTimeout.setWidth 32
  | 0x0018 => s.mnt.settings.ackTimeout.setWidth 32
  | 0x001C => s.mnt.settings.reservationTime.setWidth 32
  | 0x0020 => s.pathCtrl
  | 0x0024 => s.flt.alertEnable.setWidth 32
  | 0x0030 => s.wt.staging.ctrlWord
  | 0x0034 => s.wt.staging.upBase.extractLsb' 0 32
  | 0x0038 => s.wt.staging.target.extractLsb' 0 32
  | 0x003C => s.wt.staging.mask
  | 0x0040 => s.mnt.wvSelect.setWidth 32
  | 0x0044 => (s.viewedWindow.map Window.ctrlWord).getD 0
  | 0x0048 => (s.viewedWindow.map fun w => w.upBase.extractLsb' 0 32).getD 0
  | 0x004C => (s.viewedWindow.map fun w => w.target.extractLsb' 0 32).getD 0
  | 0x0050 => (s.viewedWindow.map Window.mask).getD 0
  | 0x0060 => flag 0 s.rqt.staging.enabled ||| field 8 8 s.rqt.staging.quota.toNat
  | 0x0064 => s.mnt.rvSelect.setWidth 32
  | 0x0068 => s.requesterWord
  | 0x006C => s.reservationWord
  | 0x0070 => s.mnt.evIndex.setWidth 32
  | 0x0074 => s.mnt.snapshot.word s.mnt.evIndex.toNat
  | 0x0080 => s.queueWord
  | 0x0084 => field 0 32 s.queueHeadAddress
  | 0x0088 => field 0 12 (s.queueHeadAddress >>> 32) ||| field 16 7 ((s.pwq.head?.map PostedWrite.length).getD 0)
  | 0x0090 => s.linkWord
  | 0x0094 => s.tagsWord
  | 0x0098 => s.headTicksWord
  | 0x00A0 => s.mnt.tagSelect.setWidth 32
  | 0x00A4 => s.tagWord
  | 0x00A8 => s.tagAddress
  | 0x00B0 => s.logStatus
  | 0x00B4 => (s.flt.log.head?.map FaultRecord.time).getD 0
  | 0x00B8 => s.logFields
  | 0x00BC => field 0 32 (s.logAddress fun r => r.up.map BitVec.toNat)
  | 0x00C0 => field 0 32 (s.logAddress fun r => r.down.map BitVec.toNat)
  | 0x00C4 => field 0 12 (s.logAddress (fun r => r.down.map BitVec.toNat) >>> 32)
  | _ => 0

/-- The data bytes of a read transaction of which the part sends `count`: the register's four, most
significant first, and 0xFF for each byte beyond the fourth (R174). -/
def readBytes (value : Word) (count : Nat) : List Byte :=
  (wordBytes value ++ List.replicate (count - 4) 0xFF#8).take count

end Sys2Proof.Machine
end

