-- ==== Sys2Proof/Machine/Registers.lean ====
section
/-! DEFINITION. The register writes, and the read of MNT_STATUS (R174, R175, R187). -/

namespace Sys2Proof.Machine

/-- A write of a timer setting: a value of 0, or one outside the register's range, is ignored whole and
sets ACCESS_ERROR (R175, R187). -/
def State.writeSetting (inRange : Bool) (f : Settings → Settings) (s : State) : State :=
  if inRange then { s with mnt := { s.mnt with settings := f s.mnt.settings } } else s.accessError

/-- A write of PATH_CTRL: WRITE_BURST 1–16, the miss policy and miss logging, all or none (R187). -/
def State.writePathCtrl (v : Word) (s : State) : State :=
  let burst := v.extractLsb' 0 5
  if 1 ≤ burst.toNat ∧ burst.toNat ≤ 16 then
    { s with
      mnt := { s.mnt with settings := { s.mnt.settings with writeBurst := burst } }
      wt := { s.wt with missPolicy := MissPolicy.ofBit (v.getLsbD 8), missLogging := v.getLsbD 9 } }
  else s.accessError

/-- A write of ALERT_ENABLE: every alert-enable is replaced and the ALERT line follows (R170, R171). -/
def State.writeAlertEnable (v : Word) (s : State) : State :=
  { s with flt := { s.flt with alertEnable := v.setWidth 23 }.settle }

/-- A write of WS_CTRL: the staged fields it covers (R26). -/
def Window.writeCtrl (v : Word) (w : Window) : Window :=
  { w with
    enabled := v.getLsbD 0
    k := (v.extractLsb' 2 6).setWidth 8
    writeMode := WriteMode.ofBits (v.extractLsb' 8 2)
    fetchMode := FetchMode.ofBit (v.getLsbD 10)
    holdMode := HoldMode.ofBit (v.getLsbD 11)
    upBase := v.extractLsb' 12 8 ++ w.upBase.extractLsb' 0 32
    target := v.extractLsb' 20 12 ++ w.target.extractLsb' 0 32 }

/-- One staged window changed. -/
def State.stageWindow (f : Window → Window) (s : State) : State :=
  { s with wt := { s.wt with staging := f s.wt.staging } }

/-- One select register changed. -/
def State.select (f : Maintenance → Maintenance) (s : State) : State := { s with mnt := f s.mnt }

/-- A complete write of a register (R175): settings are range-tested, staging and select registers take
whatever the value, CMD carries out its command, and a read-only register or an unmapped address sets
ACCESS_ERROR. -/
def State.writeRegister (a : BitVec 16) (v : Word) (s : State) : State :=
  match a.toNat with
  | 0x0008 => s.commandWrite (v.extractLsb' 0 8) (v.extractLsb' 8 8)
  | 0x0010 =>
    s.writeSetting (v.extractLsb' 0 16 != 0#16) fun t => { t with discardTime := v.extractLsb' 0 16 }
  | 0x0014 =>
    s.writeSetting (v.extractLsb' 0 16 != 0#16) fun t => { t with completionTimeout := v.extractLsb' 0 16 }
  | 0x0018 =>
    s.writeSetting (v.extractLsb' 0 16 != 0#16) fun t => { t with ackTimeout := v.extractLsb' 0 16 }
  | 0x001C =>
    s.writeSetting (v.extractLsb' 0 10 != 0#10) fun t => { t with reservationTime := v.extractLsb' 0 10 }
  | 0x0020 => s.writePathCtrl v
  | 0x0024 => s.writeAlertEnable v
  | 0x0030 => s.stageWindow (Window.writeCtrl v)
  | 0x0034 => s.stageWindow fun w => { w with upBase := w.upBase.extractLsb' 32 8 ++ v }
  | 0x0038 => s.stageWindow fun w => { w with target := w.target.extractLsb' 32 12 ++ v }
  | 0x003C => s.stageWindow fun w => { w with mask := v }
  | 0x0040 => s.select fun m => { m with wvSelect := v.extractLsb' 0 8 }
  | 0x0060 =>
    { s with rqt := { s.rqt with staging := { enabled := v.getLsbD 0, quota := v.extractLsb' 8 8 } } }
  | 0x0064 => s.select fun m => { m with rvSelect := v.extractLsb' 0 8 }
  | 0x0070 => s.select fun m => { m with evIndex := v.extractLsb' 0 5 }
  | 0x00A0 => s.select fun m => { m with tagSelect := v.extractLsb' 0 8 }
  | _ => s.accessError

/-- A write transaction (R174): one that ends with fewer than four data bytes is discarded whole and sets
ACCESS_ERROR; bytes after the fourth are discarded. -/
def State.writeTransaction (w : PortWrite) (s : State) : State :=
  if w.data.length < 4 then s.accessError else s.writeRegister w.address (be32 w.data 0)

/-- REGISTER_WRITE (R175). -/
def execRegisterWrite (w : PortWrite) (s : State) : Host.Outcome State Fault Refusal :=
  .next (if s.portTakes w.device then s.writeTransaction w else s)

/-- ALERT_ENABLE_WRITE (R170). -/
def execAlertEnableWrite (device : DeviceAddr) (v : Word) (s : State) :
    Host.Outcome State Fault Refusal :=
  .next (if s.portTakes device then s.writeAlertEnable v else s)

/-- A read of MNT_STATUS takes the register's value, and clears ACCESS_ERROR in the same event (R175). -/
def State.readStatus (count : Nat) (s : State) : State :=
  { s with
    out := { s.out with portRead := readBytes s.mntStatus count }
    mnt := { s.mnt with accessError := false } }

/-- MNT_STATUS_READ (R175).  The value is taken at the first data byte the part sends (R174), so a
transaction that ends before one takes none. -/
def execMntStatusRead (device : DeviceAddr) (count : Nat) (s : State) : Host.Outcome State Fault Refusal :=
  .next (if s.portTakes device ∧ 1 ≤ count then s.readStatus count else s)

end Sys2Proof.Machine
end

