-- ==== Sys2Proof/Machine/Image.lean ====
section
/-! DEFINITION. The configuration image (R185, section 10.8): its header, its check, the tests of its records
and what a LOADED image applies. -/

namespace Sys2Proof.Machine

/-- What a record that passes its tests sets. -/
inductive ImageRecord where
  | window (n : WindowNo) (w : Window)
  | requester (r : RequesterNo) (enabled : Bool) (quota : Nat)
  | settings (t : Settings) (missPolicy : MissPolicy) (missLogging : Bool) (alertEnable : BitVec 23)
  deriving DecidableEq, Repr

/-- The fields of a window record. -/
def imageWindow (bs : List Byte) : Window :=
  { enabled := (byteOf bs 2).getLsbD 0
    upBase := byteOf bs 4 ++ be32 bs 5
    k := byteOf bs 3
    target := (be16 bs 9).extractLsb' 0 12 ++ be32 bs 11
    mask := be32 bs 15
    writeMode := WriteMode.ofBits ((byteOf bs 2).extractLsb' 1 2)
    fetchMode := FetchMode.ofBit ((byteOf bs 2).getLsbD 3)
    holdMode := HoldMode.ofBit ((byteOf bs 2).getLsbD 4) }

/-- A window record fails when its number exceeds 11, when bits 47:44 of its target base are not 0, or when
it is enabled and fails the tests of R28 (R185). -/
def parseWindow (bs : List Byte) : Option ImageRecord :=
  if h : (byteOf bs 1).toNat < 12 then
    if (be16 bs 9).extractLsb' 12 4 ≠ 0#4 then none
    else if (imageWindow bs).enabled && !(imageWindow bs).legal then none
    else some (.window ⟨(byteOf bs 1).toNat, h⟩ (imageWindow bs))
  else none

/-- A requester record fails when its number exceeds 31 or its quota is outside 1–24 (R185). -/
def parseRequester (bs : List Byte) : Option ImageRecord :=
  if h : (byteOf bs 1).toNat < 32 then
    if 1 ≤ (byteOf bs 3).toNat ∧ (byteOf bs 3).toNat ≤ 24 then
      some (.requester ⟨(byteOf bs 1).toNat, h⟩ ((byteOf bs 2).getLsbD 0) (byteOf bs 3).toNat)
    else none
  else none

/-- A global-settings record fails when any of its settings is outside the range of R187 (R185). -/
def parseSettings (bs : List Byte) : Option ImageRecord :=
  if be16 bs 2 ≠ 0#16 ∧ be16 bs 4 ≠ 0#16 ∧ be16 bs 6 ≠ 0#16 ∧ 1 ≤ (be16 bs 8).toNat
      ∧ (be16 bs 8).toNat ≤ 1023 ∧ 1 ≤ (byteOf bs 10).toNat ∧ (byteOf bs 10).toNat ≤ 16 then
    some
      (.settings
        { discardTime := be16 bs 2, completionTimeout := be16 bs 4, ackTimeout := be16 bs 6,
          reservationTime := (be16 bs 8).setWidth 10, writeBurst := (byteOf bs 10).setWidth 5 }
        (MissPolicy.ofBit ((byteOf bs 11).getLsbD 0)) ((byteOf bs 11).getLsbD 1)
        ((byteOf bs 12 ++ be16 bs 13).setWidth 23))
  else none

/-- A record of 20 bytes, when its type names a record and it passes its tests. -/
def parseRecord (bs : List Byte) : Option ImageRecord :=
  match (byteOf bs 0).toNat with
  | 1 => parseWindow bs
  | 2 => parseRequester bs
  | 3 => parseSettings bs
  | _ => none

/-- The image's 20-byte record at a position, counting from 0. -/
def recordBytes (bs : List Byte) (j : Nat) : List Byte := (bs.drop (7 + 20 * j)).take 20

/-- The record count of the header. -/
def recordCount (bs : List Byte) : Nat := (byteOf bs 4).toNat

/-- The sum, modulo 65536, of the header's bytes other than the check and of the bytes of the announced
records. -/
def imageSum (bs : List Byte) : Nat :=
  ((bs.take 5 ++ (bs.drop 7).take (20 * recordCount bs)).map BitVec.toNat).sum % 65536

/-- The first record of a list that fails its tests, counted from `n`, or all of them parsed. -/
def parseRecords (n : Nat) : List (List Byte) → Except Nat (List ImageRecord)
  | [] => .ok []
  | bs :: rest =>
    match parseRecord bs with
    | none => .error n
    | some r =>
      match parseRecords (n + 1) rest with
      | .error m => .error m
      | .ok rs => .ok (r :: rs)

/-- The outcome of a load (R185). -/
inductive LoadOutcome where
  | absent
  | bad (count : Option Nat)
  | loaded (records : List ImageRecord)
  deriving DecidableEq, Repr

/-- The cases of R185 in their order, for an EEPROM that acknowledges its device address and then the bytes
`bs` before it stops. -/
def imageOutcome (bs : List Byte) : LoadOutcome :=
  if bs.length < 7 then .bad none
  else if be32 bs 0 ≠ 0x4D561C47#32 then .bad none
  else if 64 < recordCount bs then .bad none
  else if bs.length < 7 + 20 * recordCount bs then .bad (some ((bs.length - 7) / 20 + 1))
  else if imageSum bs ≠ (be16 bs 5).toNat then .bad none
  else
    match parseRecords 1 ((List.range (recordCount bs)).map (recordBytes bs)) with
    | .error n => .bad (some n)
    | .ok rs => .loaded rs

/-- The outcome of a load (R185). -/
def loadOutcome : Eeprom → LoadOutcome
  | .absent => .absent
  | .answers bs => imageOutcome bs

/-- One record applied (R186). -/
def State.applyRecord (s : State) (r : ImageRecord) : State :=
  match r with
  | .window n w => { s with wt := { s.wt with windows := s.wt.windows.set n w } }
  | .requester r en q =>
    { s with rqt := s.rqt.update r fun x => { x with enabled := en, quota := q } }
  | .settings t p l a =>
    { s with
      mnt := { s.mnt with settings := t }
      wt := { s.wt with missPolicy := p, missLogging := l }
      flt := { s.flt with alertEnable := a } }

end Sys2Proof.Machine
end

