-- ==== Sys2Proof/Machine/Resets.lean ====
section
/-! DEFINITION. The power-on reset input, the end of the load, and the bus reset input (sections 10.5 and
10.6).  PATH_RESET is a command and stands with the commands. -/

namespace Sys2Proof.Machine

/-- POWER_ON_RESET (R184): every block takes its power-on values.  The queue of waiting commands is the
model's own and is kept. -/
def execPowerOnReset (s : State) : Host.Outcome State Fault Refusal :=
  .next { State.reset with pending := s.pending }

/-- The event that starts the part (R184): the Timebase counts from 0, the straps are sampled, and the load
begins. -/
def State.start (straps : BitVec 2) (s : State) : State :=
  { s with powerOn := false, ticks := 0, mnt := { s.mnt with straps := straps } }

/-- POWER_ON_RESET_DEASSERTION (R184).  An input that is not asserted cannot be deasserted, so the event
changes nothing then (assumption 5). -/
def execPowerOnResetDeassertion (straps : BitVec 2) (s : State) : Host.Outcome State Fault Refusal :=
  .next (if s.powerOn then s.start straps else s)

/-- The load status that an outcome gives (R185). -/
def LoadOutcome.status : LoadOutcome → LoadStatus
  | .absent => .absent
  | .bad _ => .bad
  | .loaded _ => .loaded

/-- What the outcome applies or records (R186). -/
def State.applyLoad (o : LoadOutcome) (s : State) : State :=
  match o with
  | .absent => s
  | .bad n => s.log [{ s.record .imageBad with count := n }]
  | .loaded rs => rs.foldl State.applyRecord s

/-- The end of the load, in one event (R186): the outcome is applied, the load status is written, the part
becomes ACTIVE, and the ALERT line is set from the log and the set as they then stand. -/
def State.endLoad (o : LoadOutcome) (s : State) : State :=
  let s' := s.applyLoad o
  { s' with mnt := { s'.mnt with loadStatus := o.status, opState := .active }, flt := s'.flt.settle }

/-- END_OF_LOAD (R186).  No load runs while the power-on reset input is asserted or once LOADING has been
left, so the event changes nothing then (assumption 5). -/
def execEndOfLoad (eeprom : Eeprom) (s : State) : Host.Outcome State Fault Refusal :=
  .next
    (if s.powerOn ∨ s.mnt.opState ≠ .loading then s else s.endLoad (loadOutcome eeprom))

/-- The effect of the assertion of the bus reset input (R183): every entry is withdrawn (R66), and the
Waiting List, the reservations and the held counts are cleared (R84). -/
def State.busReset (s : State) : State :=
  let s' := s.withdraw fun _ => true
  State.settleQuiesce
    { s' with
      waiting := []
      rqt := { s'.rqt with requesters := mapTable (fun _ q => { q with held := 0 }) s'.rqt.requesters }
      dt := { s'.dt with entries := mapTable (fun _ e => e.unreserved) s'.dt.entries } }

/-- BUS_RESET (R183). -/
def execBusReset (s : State) : Host.Outcome State Fault Refusal := .next s.busReset

end Sys2Proof.Machine
end

