-- ==== Sys2Proof/Machine/Upstream.lean ====
section
/-! DEFINITION. UPSTREAM_REQUEST: the decode of one request (chapter 1), matching, delivery and creation in
the Deferral Table (chapter 3), the acceptance of a posted write and the SYNC path (chapter 5). -/

namespace Sys2Proof.Machine

/-- What the decode of R5 decides: a response with the record of the step, if any; acceptance into the
Posted Write Queue of a write through a window; or the hand-over of the entry the request would create. -/
inductive Decision where
  | answer (a : Response) (record : Option FaultRecord)
  | post (w : PostedWrite)
  | handOver (e : Entry)
  | sync
  | unnamedWriteMode
  deriving DecidableEq, Repr

/-- A record of a decode step: the requester and the upstream address as received, and the claiming window
where the step has one (R7–R9, R12–R15). -/
def decodeRecord (k : FaultKind) (n : Option WindowNo) (q : UpRequest) (s : State) : FaultRecord :=
  { s.record k with requester := some q.requester, up := some q.address, window := n }

/-- DONE with data and the data check the part computes over it (R2, R3). -/
def dataResponse (bytes : List Byte) : Response := .data bytes (Config.dataCheckCode bytes)

/-- The answer to a READ or WRITE that no enabled window contains (R12). -/
def missDecision (q : UpRequest) (s : State) : Decision :=
  let record := if s.wt.missLogging then some (decodeRecord .unclaimed none q s) else none
  match s.wt.missPolicy with
  | .fault => .answer (.fault .unclaimed) record
  | .fill =>
    if q.command = .write then .answer .done record
    else .answer (dataResponse (List.replicate q.length 0xFF#8)) record

/-- The eighth step, for a WRITE to a POSTED window whose data check has passed (R16). -/
def postedDecision (w : Window) (q : UpRequest) (s : State) : Decision :=
  if s.turnsAway then .answer .retry none
  else if 32 ≤ s.pwq.length then .answer .retry none
  else .post (postedWrite w q)

/-- The seventh to ninth steps, for a WRITE that window n claims (R14–R17). -/
def writeDecision (dataOk : Bool) (n : WindowNo) (q : UpRequest) (s : State) : Decision :=
  let w := s.wt.windows[n]
  match w.writeMode with
  | .readOnly => .answer (.fault .denied) (some (decodeRecord .denied (some n) q s))
  | .posted =>
    if dataOk then postedDecision w q s
    else .answer (.fault .check) (some (decodeRecord .reqCheck (some n) q s))
  | .nonposted =>
    if dataOk then .handOver (npWriteEntry n w q)
    else .answer (.fault .check) (some (decodeRecord .reqCheck (some n) q s))
  | .unnamed => .unnamedWriteMode

/-- The steps from the mask test on, for a READ or WRITE that window n claims (R13–R17). -/
def claimedDecision (dataOk : Bool) (n : WindowNo) (q : UpRequest) (s : State) : Decision :=
  if s.wt.windows[n].admits q.requester then
    if q.command = .write then writeDecision dataOk n q s
    else .handOver (readEntry n s.wt.windows[n] q)
  else .answer (.fault .denied) (some (decodeRecord .denied (some n) q s))

/-- The decode of one request, in the order of the steps of R5.  `checkOk` and `dataOk` are the outcomes of
the two check tests of R2. -/
def decode (checkOk dataOk : Bool) (q : UpRequest) (s : State) : Decision :=
  if s.mnt.opState = .loading then .answer .retry none
  else if !checkOk then .answer (.fault .check) (some (decodeRecord .reqCheck none q s))
  else if malformed q then .answer (.fault .format) (some (decodeRecord .reqFormat none q s))
  else if !s.rqt.requesters[q.requester].enabled then
    .answer (.fault .denied) (some (decodeRecord .denied none q s))
  else if q.command = .sync then .sync
  else
    match s.wt.claim q.address with
    | none => missDecision q s
    | some n => claimedDecision dataOk n q s

/-- The entry in WAITING, ISSUED or HELD that bears a match key (R44). -/
def DeferralTable.matching (k : MatchKey) (d : DeferralTable) : Option EntryNo :=
  (List.finRange 24).find? fun i => d.entries[i].live && d.entries[i].key == some k

/-- The response that a delivery from a HELD entry gives (R46, R47). -/
def deliveryResponse (e : Entry) (q : UpRequest) : Response :=
  match e.result with
  | none => .retry
  | some st =>
    match st.reason with
    | some r => .fault r
    | none => if e.kind = some .read then dataResponse (deliveredBytes e q) else .done

/-- A request that matches an entry: RETRY with nothing changed for a WAITING or ISSUED one (R45); delivery
from a HELD one, which becomes FREE in the same event (R46). -/
def State.matched (i : EntryNo) (q : UpRequest) (s : State) : State :=
  if s.dt.entries[i].state = .held then
    (s.freeEntry i).answer (deliveryResponse s.dt.entries[i] q)
  else s.answer .retry

/-- The quota and availability tests and the creation (R48–R50, R52, R78, R81). -/
def State.seekEntry (e : Entry) (r : RequesterNo) (s : State) : State :=
  match s.admission r with
  | .overQuota => (s.countRefusal r).answer .retry
  | .noEntry => { s.countRefusal r with waiting := joinList r s.waiting }.answer .retry
  | .take i => (s.create i e r).answer .retry

/-- A READ or NP_WRITE that matches no entry (R48). -/
def State.miss (e : Entry) (r : RequesterNo) (s : State) : State :=
  if s.mli.state ≠ .up then s.answer (.fault .linkDown)
  else if s.turnsAway then s.answer .retry
  else s.seekEntry e r

/-- A READ or NP_WRITE handed to the Deferral Table, with the entry it would create (R17, R44). -/
def State.handOver (e : Entry) (q : UpRequest) (s : State) : State :=
  match e.key.bind s.dt.matching with
  | some i => s.matched i q
  | none => s.miss e q.requester

/-- A SYNC handed to the Deferral Table (R52). -/
def State.syncRequest (q : UpRequest) (s : State) : State :=
  match s.dt.matching (.sync q.requester) with
  | some i => s.matched i q
  | none =>
    if s.pwq = [] then s.answer .done
    else if s.mli.state ≠ .up then s.answer (.fault .linkDown)
    else if s.turnsAway then s.answer .retry
    else s.seekEntry (syncEntry q.requester s.pwq.length) q.requester

/-- The acceptance of a posted write: the record joins the tail, the requester is answered DONE, and the
acceptance is the write's ordering point (R16, R90, R149). -/
def State.accept (w : PostedWrite) (s : State) : State :=
  { s.freshen (downLine w.address) with pwq := s.pwq ++ [w] }.answer .done

/-- A request, given the outcomes of its two check tests. -/
def State.request (checkOk dataOk : Bool) (q : UpRequest) (s : State) :
    Host.Outcome State Fault Refusal :=
  match decode checkOk dataOk q s with
  | .answer a record => .next ((s.log record.toList).answer a)
  | .post w => .next (s.accept w)
  | .handOver e => .next (s.handOver e q)
  | .sync => .next (s.syncRequest q)
  | .unnamedWriteMode => .fault .unnamedWriteMode

/-- UPSTREAM_REQUEST (R5): the request is taken whole at the UBI. -/
def execUpstreamRequest (q : UpRequest) (s : State) : Host.Outcome State Fault Refusal :=
  s.request (requestCheckPasses q) (dataCheckPasses q) q

end Sys2Proof.Machine
end

