-- ==== Sys2Proof/Machine/Dispatch.lean ====
section
/-! DEFINITION. One arm for each row of the opcode table. -/

namespace Sys2Proof.Machine

/-- The effect of one command on everything but the queue of waiting commands. -/
def exec (i : Instr) (s : State) : Host.Outcome State Fault Refusal :=
  match i with
  | .upstreamRequest q => Sys2Proof.Machine.execUpstreamRequest q s
  | .arbiterGrant => Sys2Proof.Machine.execArbiterGrant s
  | .readCpl c => Sys2Proof.Machine.execReadCpl c s
  | .writeAck st => Sys2Proof.Machine.execWriteAck st s
  | .credit n => Sys2Proof.Machine.execCredit n s
  | .linkUp => Sys2Proof.Machine.execLinkUp s
  | .linkDown => Sys2Proof.Machine.execLinkDown s
  | .completionTimerExpiry e => Sys2Proof.Machine.execCompletionTimerExpiry e s
  | .ackTimerExpiry => Sys2Proof.Machine.execAckTimerExpiry s
  | .discardTimerExpiry e => Sys2Proof.Machine.execDiscardTimerExpiry e s
  | .reservationTimerExpiry e => Sys2Proof.Machine.execReservationTimerExpiry e s
  | .windowCommit d a => Sys2Proof.Machine.execWindowCommit d a s
  | .requesterCommit d a => Sys2Proof.Machine.execRequesterCommit d a s
  | .logPop d a => Sys2Proof.Machine.execLogPop d a s
  | .logClear d a => Sys2Proof.Machine.execLogClear d a s
  | .counterClear d a => Sys2Proof.Machine.execCounterClear d a s
  | .entryView d a => Sys2Proof.Machine.execEntryView d a s
  | .quiesce d a => Sys2Proof.Machine.execQuiesce d a s
  | .resume d a => Sys2Proof.Machine.execResume d a s
  | .pathReset d a => Sys2Proof.Machine.execPathReset d a s
  | .linkReset d a => Sys2Proof.Machine.execLinkReset d a s
  | .unnamedCommandCode d c a => Sys2Proof.Machine.execUnnamedCommandCode d c a s
  | .alertEnableWrite d v => Sys2Proof.Machine.execAlertEnableWrite d v s
  | .mntStatusRead d n => Sys2Proof.Machine.execMntStatusRead d n s
  | .registerWrite w => Sys2Proof.Machine.execRegisterWrite w s
  | .powerOnReset => Sys2Proof.Machine.execPowerOnReset s
  | .powerOnResetDeassertion p => Sys2Proof.Machine.execPowerOnResetDeassertion p s
  | .endOfLoad e => Sys2Proof.Machine.execEndOfLoad e s
  | .busReset => Sys2Proof.Machine.execBusReset s
  | .timebaseTick => Sys2Proof.Machine.execTimebaseTick s

end Sys2Proof.Machine
end

