-- ==== Sys2Proof/Safety.lean ====
section
/-! DEFINITION. What holds of every state that a run from reset reaches: the properties the manual says the
part keeps, each a decidable proposition about one state.  A safe run is one whose every state meets them
and that never stops with a fault. -/

namespace Sys2Proof.Machine

/-! ## Capacities, credits and lines -/

/-- The queue holds at most 32 records (R88), the In-Flight Write List at most 16 members (R127), the Fault
Log at most 16 records (R161); the credit count lies between 0 and 16 and is 0 whenever the link state is not
UP (R110); the write streak is at most 16 (R112). -/
abbrev State.WithinCapacity (s : State) : Prop :=
  s.pwq.length ≤ 32 ∧ s.mli.flights.length ≤ 16 ∧ s.flt.log.length ≤ 16 ∧ s.mli.credits ≤ 16 ∧
    (s.mli.state ≠ .up → s.mli.credits = 0) ∧ s.streak ≤ 16

/-- ALERT is asserted exactly when the log and the flag call for it (R171), and LINK_RESET exactly while the
link is RESETTING (R134). -/
abbrev State.LinesExact (s : State) : Prop :=
  s.flt.alert = s.flt.level ∧ s.mli.linkReset = (s.mli.state == .resetting)

/-! ## Configuration -/

/-- An enabled window has k in 12–40, both bases aligned to its size, and a write mode that names one of the
three modes (R18). -/
abbrev State.WindowsLegal (s : State) : Prop :=
  ∀ n : WindowNo, s.wt.windows[n].enabled = true → s.wt.windows[n].legal = true

/-- Each quota is 1–24 (R70), and each setting lies in its range (R187). -/
abbrev State.SettingsLegal (s : State) : Prop :=
  (∀ r : RequesterNo, 1 ≤ s.rqt.requesters[r].quota ∧ s.rqt.requesters[r].quota ≤ 24) ∧
    s.mnt.settings.discardTime ≠ 0 ∧ s.mnt.settings.completionTimeout ≠ 0 ∧
    s.mnt.settings.ackTimeout ≠ 0 ∧ s.mnt.settings.reservationTime ≠ 0 ∧
    1 ≤ s.mnt.settings.writeBurst.toNat ∧ s.mnt.settings.writeBurst.toNat ≤ 16

/-! ## The Deferral Table -/

/-- The live entries of a requester: those its held count counts (R40). -/
def State.liveCount (r : RequesterNo) (s : State) : Nat :=
  (List.finRange 24).countP fun i => s.dt.entries[i].live && s.dt.entries[i].requester == some r

/-- The held count of every requester is the number of its entries in WAITING, ISSUED or HELD (R41). -/
abbrev State.HeldCountsExact (s : State) : Prop :=
  ∀ r : RequesterNo, s.rqt.requesters[r].held = s.liveCount r

/-- The age order lists the entries that are not FREE, each once (R38). -/
abbrev State.AgeOrderExact (s : State) : Prop :=
  s.dt.age.Nodup ∧ ∀ i : EntryNo, i ∈ s.dt.age ↔ s.dt.entries[i].state ≠ .free

/-- No two entries in WAITING, ISSUED or HELD have the same match key (R43). -/
abbrev State.KeysDistinct (s : State) : Prop :=
  ∀ i j : EntryNo, s.dt.entries[i].live = true → s.dt.entries[j].live = true →
    s.dt.entries[i].key = s.dt.entries[j].key → i = j

/-- A READ entry that memory has yet to answer. -/
def Entry.readInFlight (e : Entry) : Bool :=
  e.kind == some .read && (e.state == .issued || e.state == .orphaned)

/-- An NP_WRITE entry that memory has yet to answer. -/
def Entry.writeInFlight (e : Entry) : Bool :=
  e.kind == some .npWrite && (e.state == .issued || e.state == .orphaned)

/-- The fields that a READ has and the other kinds have not (R36). -/
def Entry.readFields (e : Entry) : Bool :=
  e.window.isSome && e.hold.isSome && e.line.isSome && e.span.isSome
    && (e.data.isSome == (e.state == .held && e.result == some .ok)) && e.refetch ≤ 3
    && (!e.stale || e.state == .issued || e.state == .orphaned) && e.pending.isNone && !e.failure

/-- The fields of an NP_WRITE (R36). -/
def Entry.npWriteFields (e : Entry) : Bool :=
  e.window.isSome && e.hold.isNone && e.line.isSome && e.span.isSome && e.data.isSome && e.refetch == 0
    && !e.stale && !e.limit && e.pending.isNone && !e.failure

/-- The fields of a SYNC, which is never ISSUED and never ORPHANED (R40, R52). -/
def Entry.syncFields (e : Entry) : Bool :=
  e.window.isNone && e.hold.isNone && e.line.isNone && e.span.isNone && e.data.isNone && e.refetch == 0
    && !e.stale && !e.limit && e.pending.isSome && (e.state == .waiting || e.state == .held)

/-- The fields of R36 are present in an entry exactly in the kinds and states its table names. -/
def Entry.formed (e : Entry) : Bool :=
  if e.state = .free then
    e == { Entry.free with reservedFor := e.reservedFor, reservationTimer := e.reservationTimer }
      && e.reservedFor.isSome == e.reservationTimer.isSome
  else
    e.reservedFor.isNone && e.reservationTimer.isNone && e.requester.isSome
      && e.key.map MatchKey.requester == e.requester && e.tag.isSome == e.readInFlight
      && e.completionTimer.isSome == e.readInFlight && e.discardTimer.isSome == (e.state == .held)
      && e.result.isSome == (e.state == .held)
      && (match e.kind with
          | some .read => e.readFields
          | some .npWrite => e.npWriteFields
          | some .sync => e.syncFields
          | none => false)

/-- Every entry has the fields of its kind and state (R36, R39). -/
abbrev State.EntriesFormed (s : State) : Prop := ∀ i : EntryNo, s.dt.entries[i].formed = true

/-! ## Reservations -/

/-- Each requester appears at most once in the Waiting List; a requester holding a reservation is not in it;
a reservation stands on a FREE entry, and each requester holds at most one (R78). -/
abbrev State.ReservationsExclusive (s : State) : Prop :=
  s.waiting.Nodup ∧
    (∀ i : EntryNo, s.dt.entries[i].reservedFor ≠ none → s.dt.entries[i].state = .free) ∧
    (∀ i j : EntryNo, s.dt.entries[i].reservedFor ≠ none →
      s.dt.entries[i].reservedFor = s.dt.entries[j].reservedFor → i = j) ∧
    ∀ r ∈ s.waiting, ∀ i : EntryNo, s.dt.entries[i].reservedFor ≠ some r

/-! ## The queue, the tags and the In-Flight Write List -/

/-- The posted members of the In-Flight Write List. -/
def postedFlights (fs : List FlightMember) : Nat := fs.countP fun f => f.ref == .posted

/-- The queue's ISSUED records are all older than its QUEUED records, and are as many as the posted members
of the In-Flight Write List (R88). -/
abbrev State.QueueOrdered (s : State) : Prop :=
  s.pwq.Pairwise (fun a b => b.state = .issued → a.state = .issued) ∧
    issuedCount s.pwq = postedFlights s.mli.flights

/-- The NP_WRITE members of the In-Flight Write List are the NP_WRITE entries in ISSUED or ORPHANED, each
once (R127). -/
abbrev State.FlightsExact (s : State) : Prop :=
  (∀ i : EntryNo,
    s.mli.flights.countP (fun f => f.ref == .npWrite i) = if s.dt.entries[i].writeInFlight then 1 else 0)

/-- A tag is BOUND exactly when it belongs to one READ entry in ISSUED or ORPHANED state, and each such entry
holds exactly one tag (R116). -/
abbrev State.TagsExact (s : State) : Prop :=
  (∀ (t : TagNo) (i : EntryNo), s.mli.tags[t] = .bound i ↔ s.dt.entries[i].tag = some t) ∧
    ∀ i : EntryNo, s.dt.entries[i].tag.isSome = s.dt.entries[i].readInFlight

/-- While the link is UP, fewer than 8 tags are QUARANTINED (R125) and the head of the In-Flight Write List has not
outlived its acknowledgement timer (R130, R131, R188); while it is DOWN, every tag is FREE and the list is empty
(R134). -/
abbrev State.LinkSettled (s : State) : Prop :=
  (s.mli.state = .up → s.mli.countTags 2 < 8 ∧ ∀ f ∈ s.mli.flights.head?, f.elapsed ≤ f.ackTimeout) ∧
    (s.mli.state = .down → (∀ t : TagNo, s.mli.tags[t] = .free) ∧ s.mli.flights = [])

/-- A WAITING SYNC counts records that still stand in the queue: its pending count is above 0 and at most
the occupancy (R100). -/
abbrev State.SyncCountsExact (s : State) : Prop :=
  ∀ i : EntryNo, s.dt.entries[i].state = .waiting → s.dt.entries[i].kind = some .sync →
    1 ≤ s.dt.entries[i].pending.getD 0 ∧ s.dt.entries[i].pending.getD 0 ≤ s.pwq.length

/-! ## Operating states -/

/-- In LOADING every entry is FREE, the queue and the Waiting List are empty (R65, R85, R89); the input of
the power-on reset is asserted in LOADING alone (R184). -/
abbrev State.LoadingIdle (s : State) : Prop :=
  (s.mnt.opState = .loading → s.allFree = true ∧ s.pwq = [] ∧ s.waiting = []) ∧
    (s.powerOn = true → s.mnt.opState = .loading ∧ s.mli.state = .down)

/-- In QUIESCED every entry is FREE, the queue and the In-Flight Write List are empty, and no tag is BOUND
(R189). -/
abbrev State.QuiescedIdle (s : State) : Prop :=
  s.mnt.opState = .quiesced →
    s.allFree = true ∧ s.pwq = [] ∧ s.mli.flights = [] ∧ s.mli.countTags 1 = 0

/-- All of them together. -/
abbrev State.Inv (s : State) : Prop :=
  s.WithinCapacity ∧ s.LinesExact ∧ s.WindowsLegal ∧ s.SettingsLegal ∧ s.HeldCountsExact ∧
    s.AgeOrderExact ∧ s.KeysDistinct ∧ s.EntriesFormed ∧ s.ReservationsExclusive ∧ s.QueueOrdered ∧
    s.FlightsExact ∧ s.TagsExact ∧ s.LinkSettled ∧ s.SyncCountsExact ∧ s.LoadingIdle ∧ s.QuiescedIdle

/-- A run of k steps meets no fault and no refusal. -/
def Completes (k : Nat) (s : State) : Prop := ∃ t, core.run k s = .next t

end Sys2Proof.Machine
end

