-- ==== Sys2Proof/Certificates/Slice0/Obligations.lean ====
section
/-! DEFINITION. The statements for the provers.  Their vocabulary stands first, in the manual's own terms
(windows that contain an address, the oldest QUEUED record, an entry that becomes FREE and is offered), so that
a statement does not lean on the definition it judges.  A frame is written as an equation that rebuilds the
whole next state from the state before: what the equation does not name is unchanged, every block of it.  The
queue of commands in such an equation, which no command changes, and the output latches in which it shows a
response, a request message or the bytes of a read, are the model's own (log entries 8 and 4). -/

namespace Sys2Proof.Claims

open Sys2Proof Sys2Proof.Machine

/-! ## Vocabulary: requests and windows -/

/-- A malformed request, by the three cases of R8. -/
def IllFormed (q : UpRequest) : Prop :=
  (∃ c, q.command = .illegal c) ∨
    ((q.command = .read ∨ q.command = .write) ∧
      (q.length = 0 ∨ 64 < q.length ∨ 64 < q.address.toNat % 64 + q.length))

/-- The request carries the request check that the part computes (R2). -/
def CheckGood (q : UpRequest) : Prop :=
  q.requestCheck = Config.requestCheckCode q.requester q.command q.address q.length

/-- The WRITE carries the data check that the part computes (R2). -/
def DataGood (q : UpRequest) : Prop := q.dataCheck = Config.dataCheckCode q.data

/-- The request passes the first four steps of the decode (R6–R9). -/
def Decoded (q : UpRequest) (s : State) : Prop :=
  s.mnt.opState ≠ .loading ∧ CheckGood q ∧ ¬ IllFormed q ∧
    s.rqt.requesters[q.requester].enabled = true

/-- An enabled window contains an upstream address (R20). -/
def InWindow (w : Window) (a : UpAddr) : Prop :=
  w.enabled = true ∧ w.upBase.toNat ≤ a.toNat ∧ a.toNat < w.upBase.toNat + 2 ^ w.k.toNat

/-- Window n claims the address: it is the lowest-numbered enabled window that contains it (R11, R21). -/
def ClaimsAddress (s : State) (n : WindowNo) (a : UpAddr) : Prop :=
  InWindow s.wt.windows[n] a ∧ ∀ m : WindowNo, m < n → ¬ InWindow s.wt.windows[m] a

/-- A READ or WRITE that passes the first four steps and that window n claims. -/
def ClaimedBy (n : WindowNo) (q : UpRequest) (s : State) : Prop :=
  Decoded q s ∧ (q.command = .read ∨ q.command = .write) ∧ ClaimsAddress s n q.address

/-- The requester is in the window's mask (R13). -/
def InMask (w : Window) (r : RequesterNo) : Prop := w.mask.getLsbD r.val = true

/-- Target base plus the address minus the upstream base (R11). -/
def downOf (w : Window) (a : UpAddr) : DownAddr :=
  BitVec.ofNat 44 (w.target.toNat + (a.toNat - w.upBase.toNat))

/-- The match key of a READ (R43). -/
def keyOfRead (w : Window) (q : UpRequest) : MatchKey :=
  if w.fetchMode = .line then .lineRead q.requester (q.address.extractLsb' 6 34)
  else .exactRead q.requester q.address q.length

/-- The entry in WAITING that a READ or NP_WRITE through window n creates (R36, R50): `e` is that of a READ,
or that of a WRITE to a NONPOSTED window whose data check is good. -/
def Requested (n : WindowNo) (w : Window) (q : UpRequest) (e : Entry) : Prop :=
  (q.command = .read ∧
      e = { Entry.free with
            state := .waiting, kind := some .read, requester := some q.requester, window := some n,
            hold := some w.holdMode, key := some (keyOfRead w q),
            line := some ((downOf w q.address).extractLsb' 6 38),
            span := some (if w.fetchMode = .line then { offset := 0, length := 64 }
                          else { offset := q.address.extractLsb' 0 6, length := q.length }) }) ∨
    (q.command = .write ∧ w.writeMode = .nonposted ∧ DataGood q ∧
      e = { Entry.free with
            state := .waiting, kind := some .npWrite, requester := some q.requester, window := some n,
            key := some (.npWrite q.requester q.address q.length),
            line := some ((downOf w q.address).extractLsb' 6 38),
            span := some { offset := q.address.extractLsb' 0 6, length := q.length },
            data := some q.data })

/-- The request is handed to the Deferral Table by the decode and `e` is the entry it would create
(R10, R17). -/
def HandedOver (q : UpRequest) (s : State) (e : Entry) : Prop :=
  (Decoded q s ∧ q.command = .sync ∧
      e = { Entry.free with
            state := .waiting, kind := some .sync, requester := some q.requester,
            key := some (.sync q.requester), pending := some s.pwq.length }) ∨
    ∃ n, ClaimedBy n q s ∧ InMask s.wt.windows[n] q.requester ∧ Requested n s.wt.windows[n] q e

/-! ## Vocabulary: the Deferral Table -/

/-- WAITING, ISSUED or HELD. -/
def Live (e : Entry) : Prop := e.state = .waiting ∨ e.state = .issued ∨ e.state = .held

/-- No entry in WAITING, ISSUED or HELD bears the key of `e`. -/
def NoMatch (s : State) (e : Entry) : Prop :=
  ∀ i : EntryNo, Live s.dt.entries[i] → s.dt.entries[i].key ≠ e.key

/-- Entry i is FREE and reserved for the requester. -/
def ReservedFree (s : State) (r : RequesterNo) (i : EntryNo) : Prop :=
  s.dt.entries[i].state = .free ∧ s.dt.entries[i].reservedFor = some r

/-- Entry i is FREE and carries no reservation. -/
def UnreservedFree (s : State) (i : EntryNo) : Prop :=
  s.dt.entries[i].state = .free ∧ s.dt.entries[i].reservedFor = none

/-- A creation for the requester takes entry i (R49): the lowest-numbered one reserved for it, of which there
is at most one, or else the lowest-numbered unreserved FREE one, also where R83 words it otherwise (log entry
27). -/
def Takes (s : State) (r : RequesterNo) (i : EntryNo) : Prop :=
  (ReservedFree s r i ∧ ∀ j : EntryNo, j < i → ¬ ReservedFree s r j) ∨
    ((∀ j : EntryNo, ¬ ReservedFree s r j) ∧ UnreservedFree s i ∧
      ∀ j : EntryNo, j < i → ¬ UnreservedFree s j)

/-- No entry is available to the requester (R49). -/
def NoneAvailable (s : State) (r : RequesterNo) : Prop :=
  ∀ i : EntryNo, ¬ ReservedFree s r i ∧ ¬ UnreservedFree s i

/-- In `t`, requester r's record is that of `s` changed by `f`, and every other record and the staging record
are those of `s`. -/
def RequesterChanged (r : RequesterNo) (f : Requester → Requester) (s t : State) : Prop :=
  t.rqt.staging = s.rqt.staging ∧
    ∀ q : RequesterNo, t.rqt.requesters[q] =
      if q = r then f s.rqt.requesters[q] else s.rqt.requesters[q]

/-- In `t`, entry i is `e`, and every other entry is that of `s`. -/
def EntryChanged (i : EntryNo) (e : Entry) (s t : State) : Prop :=
  ∀ j : EntryNo, t.dt.entries[j] = if j = i then e else s.dt.entries[j]

/-- The operating state that an event leaves which frees an entry or empties the queue (R179). -/
def opAfter (s t : State) : OpState :=
  if s.mnt.opState = .quiescing ∧ (∀ i : EntryNo, t.dt.entries[i].state = .free) ∧ t.pwq = []
  then .quiesced else s.mnt.opState

/-- A counter after one more of its causes: it does not pass 255 (R71). -/
def upTo255 (c : BitVec 8) : BitVec 8 := BitVec.ofNat 8 (min (c.toNat + 1) 255)

/-- Entry i becomes FREE (R39), leaves the age order and, when it was WAITING, ISSUED or HELD, its
requester's held count (R41), and is offered: reserved for the head of the Waiting List, which leaves the
list, or left unreserved (R80).  `f` is any other change the event makes to its requester's record. -/
def EntryFreed (i : EntryNo) (f : Requester → Requester) (s t : State) : Prop :=
  t.waiting = s.waiting.tail ∧
    EntryChanged i
      { Entry.free with
        reservedFor := s.waiting.head?
        reservationTimer := s.waiting.head?.map fun _ => s.mnt.settings.reservationTime.toNat } s t ∧
    t.dt.age = s.dt.age.filter (fun j => j ≠ i) ∧
    t.rqt.staging = s.rqt.staging ∧
    (∀ r : RequesterNo, t.rqt.requesters[r] =
      if s.dt.entries[i].requester = some r then
        { f s.rqt.requesters[r] with
          held := s.rqt.requesters[r].held - (if s.dt.entries[i].state = .orphaned then 0 else 1) }
      else s.rqt.requesters[r]) ∧
    t.mnt = { s.mnt with opState := opAfter s t }

/-- What an entry becomes as it enters HELD (R54, R57), its data as given. -/
def heldWith (result : Status) (data : Option (List Byte)) (s : State) (e : Entry) : Entry :=
  { e with
    state := .held, result := some result, data := data, tag := none, completionTimer := none,
    stale := false, discardTimer := some s.mnt.settings.discardTime.toNat }

/-- The upstream address a fault record takes from an entry: the address of its key, or the first byte of the
line of a LINE key (R132). -/
def upOf (e : Entry) : Option UpAddr :=
  match e.key with
  | some (.exactRead _ a _) => some a
  | some (.npWrite _ a _) => some a
  | some (.lineRead _ l) => some (l ++ 0#6)
  | some (.sync _) => none
  | none => none

/-- The downstream address of the first byte of an entry's span. -/
def downOfEntry (e : Entry) : Option DownAddr :=
  match e.line, e.span with
  | some l, some sp => some (l ++ sp.offset)
  | _, _ => none

/-- A fault record with the fields that R58, R132 and R156 take from entry i. -/
def recordOf (k : FaultKind) (i : EntryNo) (s : State) : FaultRecord :=
  { kind := k, time := s.ticks, requester := s.dt.entries[i].requester,
    window := s.dt.entries[i].window, up := upOf s.dt.entries[i],
    down := downOfEntry s.dt.entries[i], entry := some i }

/-- An NP_WRITE_UNREPORTED record of entry i (R31, R63, R67). -/
def unreported (i : EntryNo) (st : Option Status) (s : State) : FaultRecord :=
  { kind := .npWriteUnreported, time := s.ticks, requester := s.dt.entries[i].requester,
    window := s.dt.entries[i].window, down := downOfEntry s.dt.entries[i], entry := some i,
    status := st }

/-- The entry numbers with a property, ascending. -/
def ascending (p : EntryNo → Prop) [DecidablePred p] : List EntryNo := (List.finRange 24).filter p

/-- What withdrawal makes of an entry (R60). -/
def withdrawnAs (e : Entry) : Entry :=
  if e.state = .waiting ∨ e.state = .held then Entry.free
  else if e.state = .issued then { e with state := .orphaned } else e

/-- The set of entries `p` is withdrawn between `s` and `t` (R60), before any entry is offered: `es` are the
entries that the withdrawal leaves, the ages of those it frees are gone, and one NP_WRITE_UNREPORTED record is
made for each HELD NP_WRITE of the set, ascending. -/
def Withdrawn (p : EntryNo → Prop) [DecidablePred p] (es : Vector Entry 24) (s t : State) : Prop :=
  (∀ j : EntryNo, es[j] = if p j then withdrawnAs s.dt.entries[j] else s.dt.entries[j]) ∧
    t.dt.age = s.dt.age.filter
      (fun j => ¬ (p j ∧ (s.dt.entries[j].state = .waiting ∨ s.dt.entries[j].state = .held))) ∧
    t.flt = s.flt.appendAll
      ((ascending (fun j =>
          p j ∧ s.dt.entries[j].state = .held ∧ s.dt.entries[j].kind = some .npWrite)).map
        fun j => unreported j s.dt.entries[j].result s)

/-- The number of requester r's live entries in a set. -/
def liveOf (p : EntryNo → Prop) [DecidablePred p] (r : RequesterNo) (s : State) : Nat :=
  (List.finRange 24).countP fun j =>
    decide (p j) && decide (s.dt.entries[j].requester = some r) &&
      decide (s.dt.entries[j].state = .waiting ∨ s.dt.entries[j].state = .issued ∨
        s.dt.entries[j].state = .held)

/-! ## Vocabulary: the arbiter -/

/-- `w` is the oldest QUEUED record, behind the records `pre` and ahead of `post` (R92). -/
def OldestQueued (s : State) (pre : List PostedWrite) (w : PostedWrite) (post : List PostedWrite) :
    Prop :=
  s.pwq = pre ++ w :: post ∧ w.state = .queued ∧ ∀ x ∈ pre, x.state = .issued

/-- The write candidate's eligibility (R111). -/
def WriteEligible (s : State) : Prop :=
  s.mli.state = .up ∧ 0 < s.mli.credits ∧ s.mli.flights.length < 16 ∧
    ∃ w ∈ s.pwq, w.state = .queued

/-- A QUEUED record has the entry's downstream line (R150). -/
def Blocked (s : State) (e : Entry) : Prop :=
  ∃ w ∈ s.pwq, w.state = .queued ∧ e.line = some (w.address.extractLsb' 6 38)

/-- The eligibility of a deferral candidate (R111). -/
def DeferralEligible (s : State) (i : EntryNo) : Prop :=
  s.dt.entries[i].state = .waiting ∧ 0 < s.mli.credits ∧ ¬ Blocked s s.dt.entries[i] ∧
    ((s.dt.entries[i].kind = some .read ∧ ∃ t : TagNo, s.mli.tags[t] = .free) ∨
      (s.dt.entries[i].kind = some .npWrite ∧ s.mli.flights.length < 16))

/-- Entry i is the oldest eligible deferral candidate (R112). -/
def OldestEligible (s : State) (i : EntryNo) : Prop :=
  ∃ pre post, s.dt.age = pre ++ i :: post ∧ DeferralEligible s i ∧
    ∀ j ∈ pre, ¬ DeferralEligible s j

/-- The decision of R112 falls to the deferral side. -/
def DeferralTurn (s : State) : Prop :=
  s.mli.state = .up ∧ ¬ (WriteEligible s ∧ s.streak < s.mnt.settings.writeBurst.toNat)

/-- `t` is the lowest-numbered FREE tag (R117). -/
def LowestFreeTag (s : State) (t : TagNo) : Prop :=
  s.mli.tags[t] = .free ∧ ∀ u : TagNo, u < t → s.mli.tags[u] ≠ .free

/-- The member a write granted in `s` adds to the In-Flight Write List (R127), its ticks counted from 0 in the
model's own count (log entry 9). -/
def newFlight (ref : FlightRef) (s : State) : FlightMember :=
  { ref := ref, issueTick := s.ticks, ackTimeout := s.mnt.settings.ackTimeout.toNat, elapsed := 0 }

/-! ## Vocabulary: the timers -/

/-- No timer of an entry has reached its time, nor, while the link is UP, has that of the head of the In-Flight
Write List (R58, R82, R122, R130). -/
def NoneDue (s : State) : Prop :=
  (∀ i : EntryNo, s.dt.entries[i].completionTimer ≠ some 0 ∧ s.dt.entries[i].discardTimer ≠ some 0 ∧
    s.dt.entries[i].reservationTimer ≠ some 0) ∧
    ∀ f fs, s.mli.flights = f :: fs → s.mli.state = .up → f.elapsed < f.ackTimeout

/-- The expiry commands of the timers that stand at their time, in the order in which a tick takes them (log entry
29): by kind, then by entry number. -/
def dueExpiries (s : State) : List Instr :=
  (ascending fun i => s.dt.entries[i].completionTimer = some 0).map .completionTimerExpiry ++
    .ackTimerExpiry ::
    ((ascending fun i => s.dt.entries[i].discardTimer = some 0).map .discardTimerExpiry ++
      (ascending fun i => s.dt.entries[i].reservationTimer = some 0).map .reservationTimerExpiry)

/-- The commands, each taken in the state that the one before it leaves, lead from `s` to `u`. -/
def Runs : List Instr → State → State → Prop
  | [], s, u => u = s
  | c :: cs, s, u => ∃ m, exec c s = .next m ∧ Runs cs m u

/-- The head of the In-Flight Write List has reached its time while the link is UP (R130). -/
def HeadDue (s : State) : Prop :=
  s.mli.state = .up ∧ ∃ f fs, s.mli.flights = f :: fs ∧ f.ackTimeout ≤ f.elapsed

/-- What follows an acknowledgement that leaves `u` (R131): the expiry of the new head's timer, as an event of its
own that leads to `t`, if its time is already reached; and nothing otherwise. -/
def ThenExpires (u t : State) : Prop :=
  (HeadDue u → exec .ackTimerExpiry u = .next t) ∧ (¬ HeadDue u → t = u)

/-! ## Vocabulary: the Maintenance Port -/

/-- The port takes a transaction of this device address (R174). -/
def Addressed (device : DeviceAddr) (s : State) : Prop :=
  s.powerOn = false ∧ device.toNat = 0x58 + s.mnt.straps.toNat

/-- A command is taken: the transaction addresses the part, which is not LOADING (R176). -/
def Commanded (device : DeviceAddr) (s : State) : Prop :=
  Addressed device s ∧ s.mnt.opState ≠ .loading

/-- `s` with the outcome of a command in CMD_STATUS (R176). -/
def withStatus (code : Byte) (o : CmdOutcome) (s : State) : State :=
  { s with mnt := { s.mnt with cmdOutcome := o, cmdCode := code } }

/-- The tests of the third row of R28. -/
def LegalWindow (w : Window) : Prop :=
  12 ≤ w.k.toNat ∧ w.k.toNat ≤ 40 ∧ 2 ^ w.k.toNat ∣ w.upBase.toNat ∧ 2 ^ w.k.toNat ∣ w.target.toNat ∧
    w.writeMode ≠ .unnamed

/-! ## Vocabulary: the register window

The encodings and layouts of section 10.8.  An encoding is the position in the list of the values it numbers. -/

/-- A number as a field of w bits shows it: the number itself while it lies in the field's range. -/
def cut (w v : Nat) : Nat := v % 2 ^ w

def opStateNo (o : OpState) : Nat := [OpState.loading, .active, .quiescing, .quiesced].idxOf o

def loadStatusNo (l : LoadStatus) : Nat := [LoadStatus.pending, .loaded, .absent, .bad].idxOf l

def outcomeNo (o : CmdOutcome) : Nat := [CmdOutcome.ok, .badArg, .badWindow, .state].idxOf o

def writeModeNo (m : WriteMode) : Nat := [WriteMode.posted, .nonposted, .readOnly, .unnamed].idxOf m

def linkStateNo (l : LinkState) : Nat := [LinkState.down, .up, .resetting].idxOf l

def entryStateNo (e : EntryState) : Nat :=
  [EntryState.free, .waiting, .issued, .held, .orphaned].idxOf e

/-- READ 1, NP_WRITE 2, SYNC 3, and 0 for none. -/
def entryKindNo (k : Option EntryKind) : Nat := [none, some EntryKind.read, some .npWrite, some .sync].idxOf k

/-- The key forms from 1, and 0 for none. -/
def keyFormNo : Option MatchKey → Nat
  | none => 0
  | some (.exactRead _ _ _) => 1
  | some (.lineRead _ _) => 2
  | some (.npWrite _ _ _) => 3
  | some (.sync _) => 4

/-- OK 0 and the others by their reason codes of R4; an absent one reads 0. -/
def statusNo (x : Option Status) : Nat :=
  match x with
  | none => 0
  | some .ok => 0
  | some st =>
    5 + [Status.noMemory, .poison, .refused, .timeout, .linkDown, .linkData, .writeFailed].idxOf st

/-- The kinds of fault record from 1, in the order of R170. -/
def faultKindNo (k : FaultKind) : Nat :=
  1 + [FaultKind.reqCheck, .reqFormat, .denied, .unclaimed, .readPoison, .readNoMemory, .readRefused,
    .readTimeout, .lateCompletion, .unexpectedCompletion, .linkDataCheck, .writeFailed,
    .writeFateUnknown, .discard, .npWriteDiscard, .npWriteUnreported, .refetchLimit, .linkDown,
    .ackTimeout, .quarantineLimit, .pathResetDiscard, .imageBad].idxOf k

/-- A number field that may be absent, which then reads 0. -/
def numberOr0 {n : Nat} (x : Option (Fin n)) : Nat := (x.map Fin.val).getD 0

/-- An address field that may be absent, which then reads 0. -/
def addressOr0 {n : Nat} (x : Option (BitVec n)) : Nat := (x.map BitVec.toNat).getD 0

/-- A mark or a presence at a bit position. -/
def markAt (b : Nat) (on : Bool) : Nat := on.toNat * 2 ^ b

/-- The three words of a window record other than the mask: that laid out as WS_CTRL, and the low halves of the
two bases.  A k of 64 or more, which only an image record can give, shows some k of the field (log entry 2). -/
def ShowsWindow (w : Window) (ctrl ubase tbase : Word) : Prop :=
  (∃ k, k < 64 ∧ (w.k.toNat < 64 → k = w.k.toNat) ∧
    ctrl.toNat = markAt 0 w.enabled + 2 ^ 2 * k + 2 ^ 8 * writeModeNo w.writeMode
      + markAt 10 (w.fetchMode = .line) + markAt 11 (w.holdMode = .asFetched)
      + 2 ^ 12 * (w.upBase.toNat / 2 ^ 32) + 2 ^ 20 * (w.target.toNat / 2 ^ 32)) ∧
    ubase.toNat = w.upBase.toNat % 2 ^ 32 ∧ tbase.toNat = w.target.toNat % 2 ^ 32

/-- The window view (R27). -/
def WindowViewRight (s : State) : Prop :=
  (∀ n : WindowNo, s.mnt.wvSelect.toNat = n.val →
    ShowsWindow s.wt.windows[n] (s.readRegister 0x0044#16) (s.readRegister 0x0048#16)
      (s.readRegister 0x004C#16) ∧
    s.readRegister 0x0050#16 = s.wt.windows[n].mask) ∧
  (12 ≤ s.mnt.wvSelect.toNat →
    ∀ a ∈ [0x0044#16, 0x0048#16, 0x004C#16, 0x0050#16], s.readRegister a = 0)

/-- The requester view (R77): the record, the reservation with its ticks or 31 for none, and the position on the
Waiting List. -/
def RequesterViewRight (s : State) : Prop :=
  (∀ r : RequesterNo, s.mnt.rvSelect.toNat = r.val →
    let x := s.rqt.requesters[r]
    (s.readRegister 0x0068#16).toNat =
      markAt 0 x.enabled + 2 ^ 3 * cut 5 x.quota + 2 ^ 8 * cut 5 x.held + 2 ^ 16 * x.refusals.toNat
        + 2 ^ 24 * x.discards.toNat ∧
    ∃ entry ticks place : Nat,
      (s.readRegister 0x006C#16).toNat = entry + 2 ^ 8 * ticks + 2 ^ 24 * place ∧
      ((∀ i : EntryNo, ¬ ReservedFree s r i) → entry = 31 ∧ ticks = 0) ∧
      (∀ i : EntryNo, ReservedFree s r i → (∀ j : EntryNo, j < i → ¬ ReservedFree s r j) →
        entry = i.val ∧ ticks = cut 10 (s.dt.entries[i].reservationTimer.getD 0)) ∧
      (r ∉ s.waiting → place = 0) ∧
      ∀ pre post, s.waiting = pre ++ r :: post → r ∉ pre → place = cut 6 (pre.length + 1)) ∧
  (32 ≤ s.mnt.rvSelect.toNat → s.readRegister 0x0068#16 = 0 ∧ s.readRegister 0x006C#16 = 0)

/-- The tag view (R133). -/
def TagViewRight (s : State) : Prop :=
  (∀ t : TagNo, s.mnt.tagSelect.toNat = t.val →
    (s.mli.tags[t] = .free → s.readRegister 0x00A4#16 = 0 ∧ s.readRegister 0x00A8#16 = 0) ∧
    (∀ i, s.mli.tags[t] = .bound i →
      (s.readRegister 0x00A4#16).toNat = 1 + 2 ^ 4 * i.val ∧ s.readRegister 0x00A8#16 = 0) ∧
    (∀ r a i, s.mli.tags[t] = .quarantined r a i →
      (s.readRegister 0x00A4#16).toNat =
        2 + 2 ^ 4 * i.val + 2 ^ 10 * r.val + 2 ^ 16 * (a.toNat / 2 ^ 32) ∧
      (s.readRegister 0x00A8#16).toNat = a.toNat % 2 ^ 32)) ∧
  (32 ≤ s.mnt.tagSelect.toNat → s.readRegister 0x00A4#16 = 0 ∧ s.readRegister 0x00A8#16 = 0)

/-- The registers of the port itself: the device, the maintenance status and the command status. -/
def StatusRegistersRight (s : State) : Prop :=
  s.readRegister 0x0000#16 = 0x24320100#32 ∧
  (s.readRegister 0x0004#16).toNat =
    opStateNo s.mnt.opState + 2 ^ 2 * loadStatusNo s.mnt.loadStatus + markAt 4 s.mnt.accessError
      + 2 ^ 8 * cut 6 s.waiting.length + 2 ^ 16 * (0x58 + s.mnt.straps.toNat) ∧
  (s.readRegister 0x0008#16).toNat = outcomeNo s.mnt.cmdOutcome + 2 ^ 8 * s.mnt.cmdCode.toNat

/-- The registers that can be written read back what they hold (R26, R73, R170, R187). -/
def WrittenRegistersReadBack (s : State) : Prop :=
  (s.readRegister 0x0010#16).toNat = s.mnt.settings.discardTime.toNat ∧
  (s.readRegister 0x0014#16).toNat = s.mnt.settings.completionTimeout.toNat ∧
  (s.readRegister 0x0018#16).toNat = s.mnt.settings.ackTimeout.toNat ∧
  (s.readRegister 0x001C#16).toNat = s.mnt.settings.reservationTime.toNat ∧
  (s.readRegister 0x0020#16).toNat =
    s.mnt.settings.writeBurst.toNat + markAt 8 (s.wt.missPolicy = .fill) + markAt 9 s.wt.missLogging ∧
  (s.readRegister 0x0024#16).toNat = s.flt.alertEnable.toNat ∧
  ShowsWindow s.wt.staging (s.readRegister 0x0030#16) (s.readRegister 0x0034#16)
    (s.readRegister 0x0038#16) ∧
  s.readRegister 0x003C#16 = s.wt.staging.mask ∧
  (s.readRegister 0x0040#16).toNat = s.mnt.wvSelect.toNat ∧
  (s.readRegister 0x0060#16).toNat =
    markAt 0 s.rqt.staging.enabled + 2 ^ 8 * s.rqt.staging.quota.toNat ∧
  (s.readRegister 0x0064#16).toNat = s.mnt.rvSelect.toNat ∧
  (s.readRegister 0x0070#16).toNat = s.mnt.evIndex.toNat ∧
  (s.readRegister 0x00A0#16).toNat = s.mnt.tagSelect.toNat

/-- The Posted Write Queue view (R99). -/
def QueueViewRight (s : State) : Prop :=
  (s.pwq = [] → ∀ a ∈ [0x0080#16, 0x0084#16, 0x0088#16], s.readRegister a = 0) ∧
  ∀ w ws, s.pwq = w :: ws →
    (s.readRegister 0x0080#16).toNat =
      cut 6 s.pwq.length + 2 ^ 8 * cut 5 (s.pwq.filter fun x => x.state = .issued).length
        + 2 ^ 16 * (if w.state = .queued then 1 else 2) + 2 ^ 20 * w.requester.val ∧
    (s.readRegister 0x0084#16).toNat = w.address.toNat % 2 ^ 32 ∧
    (s.readRegister 0x0088#16).toNat = w.address.toNat / 2 ^ 32 + 2 ^ 16 * cut 7 w.length

/-- The number of tags in a state, numbered FREE 0, BOUND 1, QUARANTINED 2. -/
def tagsIn (state : Nat) (s : State) : Nat :=
  (List.finRange 32).countP fun u =>
    match s.mli.tags[u] with
    | .free => state == 0
    | .bound _ => state == 1
    | .quarantined _ _ _ => state == 2

/-- The link view (R133). -/
def LinkViewRight (s : State) : Prop :=
  (s.readRegister 0x0094#16).toNat = tagsIn 0 s + 2 ^ 8 * tagsIn 1 s + 2 ^ 16 * tagsIn 2 s ∧
  (s.mli.flights = [] →
    (s.readRegister 0x0090#16).toNat =
      linkStateNo s.mli.state + 2 ^ 2 * cut 5 s.mli.credits + 2 ^ 7 * cut 5 s.streak ∧
    s.readRegister 0x0098#16 = 0) ∧
  ∀ f fs, s.mli.flights = f :: fs →
    (s.readRegister 0x0098#16).toNat = cut 16 (f.ackTimeout - f.elapsed) + 2 ^ 16 ∧
    ∃ kind entry : Nat,
      (s.readRegister 0x0090#16).toNat =
        linkStateNo s.mli.state + 2 ^ 2 * cut 5 s.mli.credits + 2 ^ 7 * cut 5 s.streak
          + 2 ^ 12 * cut 5 s.mli.flights.length + 2 ^ 17 * kind + 2 ^ 19 * entry ∧
      (f.ref = .posted → kind = 1 ∧ entry = 0) ∧
      ∀ i, f.ref = .npWrite i → kind = 2 ∧ entry = i.val

/-- The log view (R173), with the presence bits of LOG_STATUS rising from requester at bit 13 (log entry 26). -/
def LogViewRight (s : State) : Prop :=
  (s.flt.log = [] →
    (s.readRegister 0x00B0#16).toNat = markAt 5 s.flt.overflow + markAt 6 s.flt.alert ∧
    ∀ a ∈ [0x00B4#16, 0x00B8#16, 0x00BC#16, 0x00C0#16, 0x00C4#16], s.readRegister a = 0) ∧
  ∀ x xs, s.flt.log = x :: xs →
    (s.readRegister 0x00B0#16).toNat =
      cut 5 s.flt.log.length + markAt 5 s.flt.overflow + markAt 6 s.flt.alert
        + 2 ^ 8 * faultKindNo x.kind + markAt 13 x.requester.isSome + markAt 14 x.window.isSome
        + markAt 15 x.up.isSome + markAt 16 x.down.isSome + markAt 17 x.entry.isSome
        + markAt 18 x.tag.isSome + markAt 19 x.status.isSome + markAt 20 x.count.isSome
        + 2 ^ 24 * (addressOr0 x.up / 2 ^ 32) ∧
    s.readRegister 0x00B4#16 = x.time ∧
    (s.readRegister 0x00B8#16).toNat =
      numberOr0 x.requester + 2 ^ 5 * numberOr0 x.window + 2 ^ 9 * numberOr0 x.entry
        + 2 ^ 14 * numberOr0 x.tag + 2 ^ 19 * statusNo x.status + 2 ^ 23 * cut 7 (x.count.getD 0) ∧
    (s.readRegister 0x00BC#16).toNat = addressOr0 x.up % 2 ^ 32 ∧
    (s.readRegister 0x00C0#16).toNat = addressOr0 x.down % 2 ^ 32 ∧
    (s.readRegister 0x00C4#16).toNat = addressOr0 x.down / 2 ^ 32

/-- Byte k of the line of an entry, 0 outside the span or without data. -/
def lineByteOf (e : Entry) (k : Nat) : Byte :=
  match e.span with
  | none => 0
  | some sp =>
    if sp.offset.toNat ≤ k ∧ k < sp.offset.toNat + sp.length then
      (e.data.getD []).getD (k - sp.offset.toNat) 0
    else 0

/-- The length of the key of an EXACT READ or an NP_WRITE. -/
def keyLength : Option MatchKey → Nat
  | some (.exactRead _ _ n) => n
  | some (.npWrite _ _ n) => n
  | some (.lineRead _ _) => 0
  | some (.sync _) => 0
  | none => 0

/-- The presence of each field of R36 that may be absent, in the order of its table (log entry 13), a reserved-for
field of none counting as absent (log entry 28). -/
def presenceOf (e : Entry) : List Bool :=
  [e.kind.isSome, e.requester.isSome, e.window.isSome, e.hold.isSome, e.key.isSome, e.line.isSome,
    e.span.isSome, e.data.isSome, e.result.isSome, e.tag.isSome]
    ++ List.replicate 3 (decide (e.kind = some .read))
    ++ [e.pending.isSome, decide (e.kind = some .sync), e.completionTimer.isSome,
        e.discardTimer.isSome, e.reservedFor.isSome, e.reservationTimer.isSome]

/-- Word w of the ENTRY_VIEW snapshot.  The address shown for a LINE key is that of its line's first byte (log
entry 20). -/
def ShowsSnapshot (v : Snapshot) (w : Nat) (word : Word) : Prop :=
  let e := v.entry
  let line := addressOr0 (e.line.map fun l => l ++ 0#6)
  let offset := addressOr0 (e.span.map Span.offset)
  (w < 16 → ∀ k, k < 4 → word.extractLsb' (8 * k) 8 = lineByteOf e (4 * w + k)) ∧
  (w = 16 → word.toNat =
    v.number.val + 2 ^ 5 * entryStateNo e.state + 2 ^ 8 * entryKindNo e.kind
      + 2 ^ 10 * numberOr0 e.requester + 2 ^ 15 * numberOr0 e.window
      + markAt 19 (e.hold = some .asFetched) + 2 ^ 20 * statusNo e.result + 2 ^ 24 * cut 2 e.refetch
      + markAt 26 e.stale + markAt 27 e.limit + markAt 28 e.failure) ∧
  (w = 17 → ∃ timer, word.toNat =
      cut 6 (e.pending.getD 0) + 2 ^ 8 * numberOr0 e.tag + 2 ^ 13 * cut 5 v.agePosition
        + 2 ^ 18 * numberOr0 e.reservedFor + 2 ^ 24 * timer ∧
    (e.completionTimer.isSome → timer = 1) ∧
    (e.completionTimer = none → e.discardTimer.isSome → timer = 2) ∧
    (e.completionTimer = none → e.discardTimer = none → e.reservationTimer.isSome → timer = 3) ∧
    (e.completionTimer = none → e.discardTimer = none → e.reservationTimer = none → timer = 0)) ∧
  (w = 18 → word.toNat =
    cut 16 (((e.completionTimer.or e.discardTimer).or e.reservationTimer).getD 0) + 2 ^ 16 * offset
      + 2 ^ 22 * cut 7 ((e.span.map Span.length).getD 0) + 2 ^ 29 * keyFormNo e.key) ∧
  (w = 19 → word.toNat = addressOr0 (upOf e) % 2 ^ 32) ∧
  (w = 20 → word.toNat =
    addressOr0 (upOf e) / 2 ^ 32 + 2 ^ 8 * cut 7 (keyLength e.key) + 2 ^ 20 * (line / 2 ^ 32)) ∧
  (w = 21 → word.toNat = line % 2 ^ 32) ∧
  (w = 22 → ∀ b, b < 32 → word.getLsbD b = (presenceOf e).getD b false) ∧
  (22 < w → word = 0)

/-- The addresses of the register window. -/
def mapped : List Nat :=
  [0x00, 0x04, 0x08, 0x10, 0x14, 0x18, 0x1C, 0x20, 0x24, 0x30, 0x34, 0x38, 0x3C, 0x40, 0x44, 0x48,
    0x4C, 0x50, 0x60, 0x64, 0x68, 0x6C, 0x70, 0x74, 0x80, 0x84, 0x88, 0x90, 0x94, 0x98, 0xA0, 0xA4,
    0xA8, 0xB0, 0xB4, 0xB8, 0xBC, 0xC0, 0xC4]

/-! ## Vocabulary: the configuration image -/

/-- `n` bytes of a list from byte `i` on, as a number, most significant byte first. -/
def bytesAt (i n : Nat) (bs : List Byte) : Nat :=
  ((bs.drop i).take n).foldl (fun v b => 2 ^ 8 * v + b.toNat) 0

/-- The record count of the header. -/
def announced (bs : List Byte) : Nat := bytesAt 4 1 bs

/-- The EEPROM answers throughout the header, which has the signature and at most 64 records (R185). -/
def HeaderGood (bs : List Byte) : Prop :=
  7 ≤ bs.length ∧ bs.take 4 = [0x4D#8, 0x56#8, 0x1C#8, 0x47#8] ∧ announced bs ≤ 64

/-- The EEPROM answers throughout the records announced. -/
def RecordsWhole (bs : List Byte) : Prop := 7 + 20 * announced bs ≤ bs.length

/-- The check field is the sum, modulo 65536, of the header's bytes other than it and of the announced records'
bytes (section 10.8). -/
def CheckMatches (bs : List Byte) : Prop :=
  (((bs.take 5).map BitVec.toNat).sum + (((bs.drop 7).take (20 * announced bs)).map BitVec.toNat).sum)
    % 65536 = bytesAt 5 2 bs

/-- The image's record n, counted from 1. -/
def recordNo (n : Nat) (bs : List Byte) : List Byte := (bs.drop (7 + 20 * (n - 1))).take 20

/-- A bit of a byte of a record. -/
def bitAt (i b : Nat) (rec : List Byte) : Bool := (bytesAt i 1 rec).testBit b

/-- The bytes of a record spell this record by the layout of section 10.8, and it passes its tests (R185).  A number
that has to equal that of a window, a requester or a field of bounded width is thereby within its range: so a target
base fits in 44 bits.  Bits of a named byte that carry no field are ignored (log entry 18). -/
def LaidOutAs (rec : List Byte) : ImageRecord → Prop
  | .window n w =>
    bytesAt 0 1 rec = 1 ∧ bytesAt 1 1 rec = n.val ∧ w.enabled = bitAt 2 0 rec ∧
      writeModeNo w.writeMode = bytesAt 2 1 rec / 2 % 4 ∧
      w.fetchMode = (if bitAt 2 3 rec then .line else .exact) ∧
      w.holdMode = (if bitAt 2 4 rec then .asFetched else .coherent) ∧ w.k.toNat = bytesAt 3 1 rec ∧
      w.upBase.toNat = bytesAt 4 5 rec ∧ w.target.toNat = bytesAt 9 6 rec ∧
      w.mask.toNat = bytesAt 15 4 rec ∧ (w.enabled = true → LegalWindow w)
  | .requester r en quota =>
    bytesAt 0 1 rec = 2 ∧ bytesAt 1 1 rec = r.val ∧ en = bitAt 2 0 rec ∧ quota = bytesAt 3 1 rec ∧
      1 ≤ quota ∧ quota ≤ 24
  | .settings t policy logging alerts =>
    bytesAt 0 1 rec = 3 ∧ t.discardTime.toNat = bytesAt 2 2 rec ∧
      t.completionTimeout.toNat = bytesAt 4 2 rec ∧ t.ackTimeout.toNat = bytesAt 6 2 rec ∧
      t.reservationTime.toNat = bytesAt 8 2 rec ∧ t.writeBurst.toNat = bytesAt 10 1 rec ∧
      (1 ≤ t.discardTime.toNat ∧ 1 ≤ t.completionTimeout.toNat ∧ 1 ≤ t.ackTimeout.toNat ∧
        1 ≤ t.reservationTime.toNat ∧ 1 ≤ t.writeBurst.toNat ∧ t.writeBurst.toNat ≤ 16) ∧
      policy = (if bitAt 11 0 rec then .fill else .fault) ∧ logging = bitAt 11 1 rec ∧
      ∀ b, b < 23 → alerts.getLsbD b = (bytesAt 12 3 rec).testBit b

/-- The record's type names a record, and the record passes its tests. -/
def RecordPasses (rec : List Byte) : Prop := ∃ r, LaidOutAs rec r

/-- The part after a load that ends BAD (R163, R186). -/
def loadedBad (count : Option Nat) (s : State) : State :=
  { s with
    mnt := { s.mnt with opState := .active, loadStatus := .bad }
    flt := s.flt.append { kind := .imageBad, time := s.ticks, count := count } }

/-! ## Vocabulary: the loss of the link -/

/-- The records that the members of the In-Flight Write List make as the link enters DOWN, in list order
(R143): the posted members stand for the records at the head of the queue, one after the other. -/
def lossRecords (s : State) : List FlightRef → List PostedWrite → List FaultRecord
  | [], _ => []
  | .posted :: fs, w :: ws =>
    { kind := .writeFateUnknown, time := s.ticks, requester := some w.requester,
      down := some w.address } :: lossRecords s fs ws
  | .posted :: fs, [] => lossRecords s fs []
  | .npWrite i :: fs, ws =>
    (if s.dt.entries[i].state = .orphaned then [unreported i none s] else []) ++ lossRecords s fs ws

/-- What entering DOWN makes of an entry (R141, R143), before any entry is offered. -/
def lostAs (s : State) (e : Entry) : Entry :=
  if e.state = .waiting ∨ e.state = .issued then heldWith .linkDown e.data s e
  else if e.state = .orphaned then Entry.free else e

end Sys2Proof.Claims

open Sys2Proof Sys2Proof.Machine Sys2Proof.Claims

/-! ## The queue of commands -/

/-- A step takes the command at the front of the queue and runs it on the state with the queue's rest.  The
queue is the model's own (assumption 8), not a rule's. -/
def Obligations.StepRunsFrontCommand : Prop :=
  ∀ (c : Instr) (rest : List Instr) (s : State),
    s.pending = c :: rest → step s = exec c { s with pending := rest }

/-! ## UPSTREAM_REQUEST -/

/-- R6, R7, R8, R9: the first four steps of the decode in their order: RETRY with nothing else changed while
LOADING, then FAULT with its reason for a failed check, a malformed request and a requester not enabled, each
with its record without a window and no other change. -/
def Obligations.DecodeRefusesBeforeTheWindows : Prop :=
  ∀ (q : UpRequest) (s : State),
    (s.mnt.opState = .loading →
      exec (.upstreamRequest q) s = .next { s with out := { s.out with response := some .retry } }) ∧
    (s.mnt.opState ≠ .loading →
      (¬ CheckGood q →
        exec (.upstreamRequest q) s = .next
          { s with
            flt := s.flt.append
              { kind := .reqCheck, time := s.ticks, requester := some q.requester, up := some q.address }
            out := { s.out with response := some (.fault .check) } }) ∧
      (CheckGood q → IllFormed q →
        exec (.upstreamRequest q) s = .next
          { s with
            flt := s.flt.append
              { kind := .reqFormat, time := s.ticks, requester := some q.requester, up := some q.address }
            out := { s.out with response := some (.fault .format) } }) ∧
      (CheckGood q → ¬ IllFormed q → s.rqt.requesters[q.requester].enabled = false →
        exec (.upstreamRequest q) s = .next
          { s with
            flt := s.flt.append
              { kind := .denied, time := s.ticks, requester := some q.requester, up := some q.address }
            out := { s.out with response := some (.fault .denied) } }))

/-- R12: a READ or WRITE that no enabled window contains is answered by the miss policy, with an UNCLAIMED
record exactly when miss logging is on, and changes nothing else; the reset values are FAULT and off. -/
def Obligations.UnclaimedRequestMeetsMissPolicy : Prop :=
  State.reset.wt.missPolicy = .fault ∧ State.reset.wt.missLogging = false ∧
  ∀ (q : UpRequest) (s : State), Decoded q s → (q.command = .read ∨ q.command = .write) →
    (∀ n : WindowNo, ¬ InWindow s.wt.windows[n] q.address) →
    exec (.upstreamRequest q) s = .next
      { s with
        flt := if s.wt.missLogging = true then
            s.flt.append
              { kind := .unclaimed, time := s.ticks, requester := some q.requester, up := some q.address }
          else s.flt
        out := { s.out with
                 response := some
                   (if s.wt.missPolicy = .fault then .fault .unclaimed
                    else if q.command = .write then .done
                    else .data (List.replicate q.length 0xFF#8)
                      (Config.dataCheckCode (List.replicate q.length 0xFF#8))) } }

/-- R13, R14, R15: the lowest-numbered enabled window that contains the address decides: a requester outside
its mask, a WRITE to a READ_ONLY window, and a WRITE to a POSTED or NONPOSTED window whose data check fails are
refused with a record that carries the window, and nothing else changes.  The last clause is the model's own
stop (assumption 11): the write-mode value that names no mode, which R18 rules out of an enabled window. -/
def Obligations.ClaimingWindowRefuses : Prop :=
  ∀ (q : UpRequest) (s : State) (n : WindowNo), ClaimedBy n q s →
    (¬ InMask s.wt.windows[n] q.requester →
      exec (.upstreamRequest q) s = .next
        { s with
          flt := s.flt.append
            { kind := .denied, time := s.ticks, requester := some q.requester, window := some n,
              up := some q.address }
          out := { s.out with response := some (.fault .denied) } }) ∧
    (InMask s.wt.windows[n] q.requester → q.command = .write → s.wt.windows[n].writeMode = .readOnly →
      exec (.upstreamRequest q) s = .next
        { s with
          flt := s.flt.append
            { kind := .denied, time := s.ticks, requester := some q.requester, window := some n,
              up := some q.address }
          out := { s.out with response := some (.fault .denied) } }) ∧
    (InMask s.wt.windows[n] q.requester → q.command = .write →
      (s.wt.windows[n].writeMode = .posted ∨ s.wt.windows[n].writeMode = .nonposted) → ¬ DataGood q →
      exec (.upstreamRequest q) s = .next
        { s with
          flt := s.flt.append
            { kind := .reqCheck, time := s.ticks, requester := some q.requester, window := some n,
              up := some q.address }
          out := { s.out with response := some (.fault .check) } }) ∧
    (InMask s.wt.windows[n] q.requester → q.command = .write → s.wt.windows[n].writeMode = .unnamed →
      exec (.upstreamRequest q) s = .fault .unnamedWriteMode)

/-- R20: an enabled window that passes the tests of R28 translates each address it contains to the target base
plus the offset into the window: the translation never leaves the window's downstream range, keeps the low k
bits, and keeps the offset in the line. -/
def Obligations.TranslationStaysInWindow : Prop :=
  ∀ (w : Window) (a : UpAddr), LegalWindow w → InWindow w a →
    (w.translate a).toNat = w.target.toNat + (a.toNat - w.upBase.toNat) ∧
      (w.translate a).toNat < w.target.toNat + 2 ^ w.k.toNat ∧
      (w.translate a).toNat % 2 ^ w.k.toNat = a.toNat % 2 ^ w.k.toNat ∧
      (w.translate a).toNat % 64 = a.toNat % 64

/-- R16, R90: a posted WRITE whose data check is good is answered RETRY with nothing changed while QUIESCING or
QUIESCED or with 32 records in the queue; otherwise it is answered DONE, its record joins the tail QUEUED with
the translated address, and the freshness rules act on the entries of its line.  The requester table, the
Waiting List, the link and everything else are unchanged. -/
def Obligations.PostedWriteAcceptedOrRetried : Prop :=
  ∀ (q : UpRequest) (s : State) (n : WindowNo), ClaimedBy n q s → InMask s.wt.windows[n] q.requester →
    q.command = .write → s.wt.windows[n].writeMode = .posted → DataGood q →
    ((s.mnt.opState = .quiescing ∨ s.mnt.opState = .quiesced ∨ 32 ≤ s.pwq.length) →
      exec (.upstreamRequest q) s = .next { s with out := { s.out with response := some .retry } }) ∧
    (s.mnt.opState = .active → s.pwq.length < 32 →
      ∃ t, exec (.upstreamRequest q) s = .next t ∧
        t.pwq = s.pwq ++
          [{ requester := q.requester, address := downOf s.wt.windows[n] q.address, length := q.length,
             data := q.data, state := .queued }] ∧
        t.out = { s.out with response := some .done } ∧
        t.dt = (s.freshen ((downOf s.wt.windows[n] q.address).extractLsb' 6 38)).dt ∧
        t.flt = (s.freshen ((downOf s.wt.windows[n] q.address).extractLsb' 6 38)).flt ∧
        t = { s with pwq := t.pwq, dt := t.dt, flt := t.flt, out := t.out })

/-- R153, R154, R156: what a write at its ordering point makes of each entry, by its kind, hold mode, line,
state, result and refetch count, with one REFETCH_LIMIT record, in ascending entry number, for each entry met
at count 3 with its mark clear; and nothing else changes. -/
def Obligations.FreshnessActsOnCoherentReads : Prop :=
  ∀ (l : DownLine) (s : State),
    let reaches : Entry → Prop := fun e =>
      e.kind = some .read ∧ e.hold = some .coherent ∧ e.line = some l
    (∀ i : EntryNo,
      let e := s.dt.entries[i]
      let e' := (s.freshen l).dt.entries[i]
      (¬ reaches e → e' = e) ∧
      (reaches e → e.state = .held → e.result = some .ok → e.refetch < 3 →
        e' = { e with state := .waiting, data := none, result := none, refetch := e.refetch + 1,
                      discardTimer := none }) ∧
      (reaches e → e.state = .held → e.result = some .ok → 3 ≤ e.refetch →
        e' = { e with limit := true }) ∧
      (reaches e → e.state = .held → e.result ≠ some .ok → e' = e) ∧
      (reaches e → e.state = .issued → e' = { e with stale := true }) ∧
      (reaches e → (e.state = .waiting ∨ e.state = .orphaned ∨ e.state = .free) → e' = e)) ∧
    (s.freshen l).flt = s.flt.appendAll
      ((ascending (fun i =>
          s.dt.entries[i].kind = some .read ∧ s.dt.entries[i].hold = some .coherent ∧
            s.dt.entries[i].line = some l ∧ s.dt.entries[i].state = .held ∧
            s.dt.entries[i].result = some .ok ∧ 3 ≤ s.dt.entries[i].refetch ∧
            s.dt.entries[i].limit = false)).map
        fun i => { recordOf .refetchLimit i s with count := some s.dt.entries[i].refetch }) ∧
    (s.freshen l).dt.age = s.dt.age ∧
    s.freshen l = { s with dt := (s.freshen l).dt, flt := (s.freshen l).flt }

/-- R45: a request that matches an entry in WAITING or ISSUED is answered RETRY, and nothing else changes. -/
def Obligations.RepeatOfUnansweredEntryRetries : Prop :=
  ∀ (q : UpRequest) (s : State) (e : Entry) (i : EntryNo), HandedOver q s e → s.KeysDistinct →
    (s.dt.entries[i].state = .waiting ∨ s.dt.entries[i].state = .issued) →
    s.dt.entries[i].key = e.key →
    exec (.upstreamRequest q) s = .next { s with out := { s.out with response := some .retry } }

/-- R46, R47: a request that matches a HELD entry is delivered: DONE with the bytes of its own offset and
length for an OK READ, DONE for an OK NP_WRITE or SYNC, FAULT with the reason otherwise; the entry becomes FREE
in the same event and is offered; and nothing else changes. -/
def Obligations.HeldEntryIsDelivered : Prop :=
  ∀ (q : UpRequest) (s : State) (e : Entry) (i : EntryNo) (st : Status), HandedOver q s e →
    s.KeysDistinct → s.dt.entries[i].state = .held → s.dt.entries[i].key = e.key →
    s.dt.entries[i].result = some st →
    ∃ t, exec (.upstreamRequest q) s = .next t ∧
      EntryFreed i id s t ∧
      t.out = { s.out with
                response := some
                  (match st with
                   | .ok =>
                     if s.dt.entries[i].kind = some .read then
                       let start := (s.dt.entries[i].span.map fun sp => sp.offset.toNat).getD 0
                       let bytes :=
                         ((s.dt.entries[i].data.getD []).drop (q.address.toNat % 64 - start)).take q.length
                       .data bytes (Config.dataCheckCode bytes)
                     else .done
                   | .poison => .fault .poison
                   | .noMemory => .fault .noMemory
                   | .refused => .fault .refused
                   | .timeout => .fault .timeout
                   | .linkData => .fault .linkData
                   | .linkDown => .fault .linkDown
                   | .writeFailed => .fault .writeFailed) } ∧
      t = { s with waiting := t.waiting, rqt := t.rqt, dt := t.dt, mnt := t.mnt, out := t.out }

/-- R48, R49, R50: a READ or NP_WRITE that matches no entry is tested for the link, the operating state, the
quota and an available entry, in that order; the first test that fails decides, with its effect alone; and when
all pass the entry is created in WAITING at the tail of the age order, the held count rises by one, and the
requester leaves the Waiting List.  That the lowest-numbered unreserved entry is taken even by a requester whose
reservation has just expired on a higher-numbered one is the model's choice between R49 and R83 (log entry 27). -/
def Obligations.MissIsRefusedOrCreatesEntry : Prop :=
  ∀ (q : UpRequest) (s : State) (e : Entry), HandedOver q s e → q.command ≠ .sync → NoMatch s e →
    (s.mli.state ≠ .up →
      exec (.upstreamRequest q) s =
        .next { s with out := { s.out with response := some (.fault .linkDown) } }) ∧
    (s.mli.state = .up → (s.mnt.opState = .quiescing ∨ s.mnt.opState = .quiesced) →
      exec (.upstreamRequest q) s = .next { s with out := { s.out with response := some .retry } }) ∧
    (s.mli.state = .up → s.mnt.opState = .active →
      s.rqt.requesters[q.requester].quota ≤ s.rqt.requesters[q.requester].held →
      ∃ t, exec (.upstreamRequest q) s = .next t ∧
        RequesterChanged q.requester (fun x => { x with refusals := upTo255 x.refusals }) s t ∧
        t = { s with rqt := t.rqt, out := { s.out with response := some .retry } }) ∧
    (s.mli.state = .up → s.mnt.opState = .active →
      s.rqt.requesters[q.requester].held < s.rqt.requesters[q.requester].quota →
      NoneAvailable s q.requester →
      ∃ t, exec (.upstreamRequest q) s = .next t ∧
        RequesterChanged q.requester (fun x => { x with refusals := upTo255 x.refusals }) s t ∧
        t = { s with
              rqt := t.rqt
              waiting := if q.requester ∈ s.waiting then s.waiting else s.waiting ++ [q.requester]
              out := { s.out with response := some .retry } }) ∧
    (s.mli.state = .up → s.mnt.opState = .active →
      s.rqt.requesters[q.requester].held < s.rqt.requesters[q.requester].quota →
      ∀ i, Takes s q.requester i →
      ∃ t, exec (.upstreamRequest q) s = .next t ∧
        RequesterChanged q.requester (fun x => { x with held := x.held + 1 }) s t ∧
        EntryChanged i e s t ∧ t.dt.age = s.dt.age ++ [i] ∧
        t = { s with
              rqt := t.rqt, dt := t.dt
              waiting := s.waiting.filter (fun r => r ≠ q.requester)
              out := { s.out with response := some .retry } })

/-- R52: a SYNC that matches no entry is answered DONE when the queue holds no record, in every link and
operating state but LOADING; otherwise it is tested like a miss, and when every test passes a SYNC entry is
created that counts the records then in the queue.  The entry taken is the model's choice in the case of log
entry 27. -/
def Obligations.SyncIsAnsweredRefusedOrCreatesEntry : Prop :=
  ∀ (q : UpRequest) (s : State) (e : Entry), HandedOver q s e → q.command = .sync → NoMatch s e →
    (s.pwq = [] →
      exec (.upstreamRequest q) s = .next { s with out := { s.out with response := some .done } }) ∧
    (s.pwq ≠ [] → s.mli.state ≠ .up →
      exec (.upstreamRequest q) s =
        .next { s with out := { s.out with response := some (.fault .linkDown) } }) ∧
    (s.pwq ≠ [] → s.mli.state = .up → (s.mnt.opState = .quiescing ∨ s.mnt.opState = .quiesced) →
      exec (.upstreamRequest q) s = .next { s with out := { s.out with response := some .retry } }) ∧
    (s.pwq ≠ [] → s.mli.state = .up → s.mnt.opState = .active →
      s.rqt.requesters[q.requester].quota ≤ s.rqt.requesters[q.requester].held →
      ∃ t, exec (.upstreamRequest q) s = .next t ∧
        RequesterChanged q.requester (fun x => { x with refusals := upTo255 x.refusals }) s t ∧
        t = { s with rqt := t.rqt, out := { s.out with response := some .retry } }) ∧
    (s.pwq ≠ [] → s.mli.state = .up → s.mnt.opState = .active →
      s.rqt.requesters[q.requester].held < s.rqt.requesters[q.requester].quota →
      NoneAvailable s q.requester →
      ∃ t, exec (.upstreamRequest q) s = .next t ∧
        RequesterChanged q.requester (fun x => { x with refusals := upTo255 x.refusals }) s t ∧
        t = { s with
              rqt := t.rqt
              waiting := if q.requester ∈ s.waiting then s.waiting else s.waiting ++ [q.requester]
              out := { s.out with response := some .retry } }) ∧
    (s.pwq ≠ [] → s.mli.state = .up → s.mnt.opState = .active →
      s.rqt.requesters[q.requester].held < s.rqt.requesters[q.requester].quota →
      ∀ i, Takes s q.requester i →
      ∃ t, exec (.upstreamRequest q) s = .next t ∧
        RequesterChanged q.requester (fun x => { x with held := x.held + 1 }) s t ∧
        EntryChanged i
          { Entry.free with
            state := .waiting, kind := some .sync, requester := some q.requester,
            key := some (.sync q.requester), pending := some s.pwq.length } s t ∧
        t.dt.age = s.dt.age ++ [i] ∧
        t = { s with
              rqt := t.rqt, dt := t.dt
              waiting := s.waiting.filter (fun r => r ≠ q.requester)
              out := { s.out with response := some .retry } })

/-! ## ARBITER_GRANT -/

/-- R92, R112, R113: the write candidate is granted when it is eligible and the streak is below WRITE_BURST or
no deferral candidate is eligible: the oldest QUEUED record becomes ISSUED in its place and joins the tail of
the In-Flight Write List, a credit is consumed, the streak rises by one to at most 16, and its WRITE_REQ is
sent; nothing else changes.  The new member's count of ticks is the model's own (log entry 9). -/
def Obligations.WriteCandidateIsGranted : Prop :=
  ∀ (s : State) (pre post : List PostedWrite) (w : PostedWrite), OldestQueued s pre w post →
    WriteEligible s →
    (s.streak < s.mnt.settings.writeBurst.toNat ∨ ∀ j ∈ s.dt.age, ¬ DeferralEligible s j) →
    exec .arbiterGrant s = .next
      { s with
        pwq := pre ++ { w with state := .issued } :: post
        streak := min (s.streak + 1) 16
        mli := { s.mli with
                 credits := s.mli.credits - 1, flights := s.mli.flights ++ [newFlight .posted s] }
        out := { s.out with
                 request := some (.writeReq w.address w.length w.data (Config.dataCheckCode w.data)) } }

/-- R53, R112, R113, R117: when the turn falls to the deferral side, the oldest eligible candidate, a READ, is
granted: the lowest-numbered FREE tag is bound to it, it becomes ISSUED with its completion timer started, a
credit is consumed, the streak becomes 0, and its READ_REQ is sent for its span; nothing else changes. -/
def Obligations.OldestReadIsGranted : Prop :=
  ∀ (s : State) (i : EntryNo) (t : TagNo) (l : DownLine) (sp : Span), DeferralTurn s →
    OldestEligible s i → s.dt.entries[i].kind = some .read → s.dt.entries[i].line = some l →
    s.dt.entries[i].span = some sp → LowestFreeTag s t →
    exec .arbiterGrant s = .next
      { s with
        streak := 0
        mli := { s.mli with tags := s.mli.tags.set t (.bound i), credits := s.mli.credits - 1 }
        dt := { s.dt with
                entries := s.dt.entries.set i
                  { s.dt.entries[i] with
                    state := .issued, tag := some t
                    completionTimer := some s.mnt.settings.completionTimeout.toNat } }
        out := { s.out with request := some (.readReq t (l ++ sp.offset) sp.length) } }

/-- R53, R112, R113, R149: an NP_WRITE granted in its turn becomes ISSUED, joins the tail of the In-Flight
Write List and sends its data; the grant is its ordering point, at which the freshness rules act on the other
entries of its line.  The new member's count of ticks is the model's own (log entry 9). -/
def Obligations.OldestNpWriteIsGranted : Prop :=
  ∀ (s : State) (i : EntryNo) (l : DownLine) (sp : Span) (d : List Byte), DeferralTurn s →
    OldestEligible s i → s.dt.entries[i].kind = some .npWrite → s.dt.entries[i].line = some l →
    s.dt.entries[i].span = some sp → s.dt.entries[i].data = some d →
    ∃ t, exec .arbiterGrant s = .next t ∧
      (∀ j : EntryNo, t.dt.entries[j] =
        if j = i then { s.dt.entries[i] with state := .issued } else (s.freshen l).dt.entries[j]) ∧
      t.dt.age = s.dt.age ∧ t.flt = (s.freshen l).flt ∧
      t = { s with
            streak := 0, dt := t.dt, flt := t.flt
            mli := { s.mli with
                     credits := s.mli.credits - 1, flights := s.mli.flights ++ [newFlight (.npWrite i) s] }
            out := { s.out with
                     request := some
                       (.writeReq (l ++ sp.offset) sp.length d (Config.dataCheckCode d)) } }

/-- R111, R112: a decision while the link is not UP, or one that finds no candidate eligible, grants nothing
and changes nothing. -/
def Obligations.NoEligibleCandidateNoGrant : Prop :=
  ∀ s : State,
    (s.mli.state ≠ .up ∨ (¬ WriteEligible s ∧ ∀ j ∈ s.dt.age, ¬ DeferralEligible s j)) →
    exec .arbiterGrant s = .next s

/-- R150: an entry that a grant decision takes out of WAITING was not hazard-blocked: no QUEUED record had its
downstream line. -/
def Obligations.HazardBlockedEntryIsNeverGranted : Prop :=
  ∀ (s t : State) (i : EntryNo), exec .arbiterGrant s = .next t →
    s.dt.entries[i].state = .waiting → t.dt.entries[i].state ≠ .waiting →
    ¬ Blocked s s.dt.entries[i]

/-! ## READ_CPL -/

/-- R119, R120, R155: a good OK completion to an ISSUED entry frees the tag, and the entry becomes HELD(OK) with
the data; or, with its stale-on-arrival mark set, returns to WAITING below the refetch limit, and at the limit
is held with the arriving data, its limit mark set, with one REFETCH_LIMIT record if the mark was clear. -/
def Obligations.GoodCompletionHoldsOrRefetches : Prop :=
  ∀ (s : State) (c : ReadCompletion) (i : EntryNo) (sp : Span), s.powerOn = false →
    s.mli.tags[c.tag] = .bound i → s.dt.entries[i].state = .issued → s.dt.entries[i].span = some sp →
    c.status = .ok → c.dataCheck = Config.dataCheckCode c.data → c.data.length = sp.length →
    exec (.readCpl c) s = .next
      { s with
        mli := { s.mli with tags := s.mli.tags.set c.tag .free }
        dt := { s.dt with
                entries := s.dt.entries.set i
                  (let e := s.dt.entries[i]
                   if e.stale = false then heldWith .ok (some c.data) s e
                   else if e.refetch < 3 then
                     { e with state := .waiting, tag := none, completionTimer := none, stale := false,
                              data := none, result := none, refetch := e.refetch + 1 }
                   else { heldWith .ok (some c.data) s e with limit := true }) }
        flt :=
          if s.dt.entries[i].stale = true ∧ 3 ≤ s.dt.entries[i].refetch ∧
              s.dt.entries[i].limit = false then
            s.flt.append
              { recordOf .refetchLimit i s with count := some s.dt.entries[i].refetch }
          else s.flt }

/-- R108, R119, R120: a completion to an ISSUED entry with an error status, an encoding beyond the listed ones
counted as REFUSED, or with a failed data check, frees the tag and makes the entry HELD with that result and
its stale-on-arrival mark clear, with the record of R132. -/
def Obligations.ErrorCompletionHoldsError : Prop :=
  ∀ (s : State) (c : ReadCompletion) (i : EntryNo) (sp : Span), s.powerOn = false →
    s.mli.tags[c.tag] = .bound i → s.dt.entries[i].state = .issued → s.dt.entries[i].span = some sp →
    ∀ (k : FaultKind) (result status : Status),
    ((c.status = .ok ∧ (c.dataCheck ≠ Config.dataCheckCode c.data ∨ c.data.length ≠ sp.length) ∧
        k = .linkDataCheck ∧ result = .linkData ∧ status = .ok) ∨
      (c.status = .poison ∧ k = .readPoison ∧ result = .poison ∧ status = .poison) ∨
      (c.status = .noMemory ∧ k = .readNoMemory ∧ result = .noMemory ∧ status = .noMemory) ∨
      ((c.status = .refused ∨ ∃ x, c.status = .other x) ∧ k = .readRefused ∧ result = .refused ∧
        status = .refused)) →
    exec (.readCpl c) s = .next
      { s with
        mli := { s.mli with tags := s.mli.tags.set c.tag .free }
        dt := { s.dt with
                entries := s.dt.entries.set i
                  (heldWith result s.dt.entries[i].data s s.dt.entries[i]) }
        flt := s.flt.append { recordOf k i s with tag := some c.tag, status := some status } }

/-- R121: a completion to an ORPHANED entry frees the tag and the entry, drops the data, and makes the record
that its status or its failed data check calls for. -/
def Obligations.OrphanCompletionFreesTagAndEntry : Prop :=
  ∀ (s : State) (c : ReadCompletion) (i : EntryNo) (sp : Span), s.powerOn = false →
    s.mli.tags[c.tag] = .bound i → s.dt.entries[i].state = .orphaned →
    s.dt.entries[i].span = some sp →
    ∃ t, exec (.readCpl c) s = .next t ∧ EntryFreed i id s t ∧
      t.flt = s.flt.appendAll
        (match c.status with
         | .ok =>
           if c.dataCheck = Config.dataCheckCode c.data ∧ c.data.length = sp.length then []
           else [{ recordOf .linkDataCheck i s with tag := some c.tag, status := some .ok }]
         | .poison => [{ recordOf .readPoison i s with tag := some c.tag, status := some .poison }]
         | .noMemory => [{ recordOf .readNoMemory i s with tag := some c.tag, status := some .noMemory }]
         | _ => [{ recordOf .readRefused i s with tag := some c.tag, status := some .refused }]) ∧
      t = { s with
            waiting := t.waiting, rqt := t.rqt, dt := t.dt, mnt := t.mnt, flt := t.flt
            mli := { s.mli with tags := s.mli.tags.set c.tag .free } }

/-- R123, R124, R129: a completion naming a QUARANTINED tag frees the tag and is dropped with a LATE_COMPLETION
record that carries what the tag kept; one naming a FREE tag, and a WRITE_ACK that finds the In-Flight Write
List empty, is dropped with an UNEXPECTED_COMPLETION record; and nothing else changes, whatever the completion
carries. -/
def Obligations.AnswersWithoutRequestAreDropped : Prop :=
  ∀ (s : State) (c : ReadCompletion) (st : Status), s.powerOn = false →
    st = (match c.status with
          | .ok => Status.ok
          | .poison => .poison
          | .noMemory => .noMemory
          | _ => .refused) →
    (∀ r a i, s.mli.tags[c.tag] = .quarantined r a i →
      exec (.readCpl c) s = .next
        { s with
          mli := { s.mli with tags := s.mli.tags.set c.tag .free }
          flt := s.flt.append
            { kind := .lateCompletion, time := s.ticks, requester := some r, down := some a,
              entry := some i, tag := some c.tag, status := some st } }) ∧
    (s.mli.tags[c.tag] = .free →
      exec (.readCpl c) s = .next
        { s with
          flt := s.flt.append
            { kind := .unexpectedCompletion, time := s.ticks, tag := some c.tag, status := some st } }) ∧
    ∀ status : LinkStatus, s.mli.flights = [] →
      exec (.writeAck status) s = .next
        { s with
          flt := s.flt.append
            { kind := .unexpectedCompletion, time := s.ticks,
              status := some (match status with
                              | .ok => Status.ok
                              | .noMemory => .noMemory
                              | _ => .refused) } }

/-! ## WRITE_ACK -/

/-- R93, R94, R128, R131: a WRITE_ACK that reaches an ISSUED record at the head of the list removes it from the list
and from the queue; a failure makes a WRITE_FAILED record; and the departure is accounted for by the SYNC
entries.  If the new head's time is already reached while the link is UP, its expiry follows at once as an event of
its own.  A posted head stands for the first record of the queue (log entry 19). -/
def Obligations.AcknowledgedRecordLeavesQueue : Prop :=
  ∀ (s : State) (status : LinkStatus) (st : Status) (f : FlightMember) (fs : List FlightMember)
    (w : PostedWrite) (ws : List PostedWrite), s.powerOn = false → s.mli.flights = f :: fs →
    f.ref = .posted → s.pwq = w :: ws →
    st = (match status with
          | .ok => Status.ok
          | .noMemory => .noMemory
          | _ => .refused) →
    ∃ u t, exec (.writeAck status) s = .next t ∧ ThenExpires u t ∧ u.pwq = ws ∧
      (∀ j : EntryNo, u.dt.entries[j] =
        s.dt.entries[j].accounted w.requester (st != .ok) s.mnt.settings.discardTime.toNat) ∧
      u.dt.age = s.dt.age ∧
      u.flt = (if st = .ok then s.flt
               else s.flt.append
                 { kind := .writeFailed, time := s.ticks, requester := some w.requester,
                   down := some w.address, status := some st }) ∧
      u.mnt = { s.mnt with opState := opAfter s u } ∧
      u = { s with
            pwq := u.pwq, dt := u.dt, flt := u.flt, mnt := u.mnt
            mli := { s.mli with flights := fs } }

/-- R101, R102: a departure acts on a WAITING SYNC with a count above 0 alone: a failure of its own requester's
record marks it, its count then falls by one, and at 0 it becomes HELD with WRITE_FAILED if it is marked and OK
otherwise, its discard timer started. -/
def Obligations.DepartureCountsDownSyncs : Prop :=
  ∀ (e : Entry) (r : RequesterNo) (failed : Bool) (time : Nat),
    (∀ n, e.state = .waiting → e.kind = some .sync → e.pending = some (n + 1) →
      ∀ marked : Bool, marked = (e.failure || (failed && decide (e.requester = some r))) →
      e.accounted r failed time =
        if n = 0 then
          { e with
            state := .held, result := some (if marked then .writeFailed else .ok), failure := marked,
            pending := some 0, tag := none, completionTimer := none, stale := false,
            discardTimer := some time }
        else { e with failure := marked, pending := some n }) ∧
    (¬ (e.state = .waiting ∧ e.kind = some .sync ∧ 0 < e.pending.getD 0) →
      e.accounted r failed time = e)

/-- R55, R63, R128, R131: a WRITE_ACK that reaches an ISSUED NP_WRITE makes it HELD with the status; one that reaches
an ORPHANED NP_WRITE frees it with an NP_WRITE_UNREPORTED record that carries the status.  If the new head's time is
already reached while the link is UP, its expiry follows at once as an event of its own. -/
def Obligations.AcknowledgedNpWriteIsHeldOrFreed : Prop :=
  ∀ (s : State) (status : LinkStatus) (st : Status) (f : FlightMember) (fs : List FlightMember)
    (i : EntryNo), s.powerOn = false → s.mli.flights = f :: fs → f.ref = .npWrite i →
    st = (match status with
          | .ok => Status.ok
          | .noMemory => .noMemory
          | _ => .refused) →
    (s.dt.entries[i].state = .issued →
      ∃ t, exec (.writeAck status) s = .next t ∧
        ThenExpires
          { s with
            mli := { s.mli with flights := fs }
            dt := { s.dt with
                    entries := s.dt.entries.set i
                      (heldWith st s.dt.entries[i].data s s.dt.entries[i]) } } t) ∧
    (s.dt.entries[i].state = .orphaned →
      ∃ u t, exec (.writeAck status) s = .next t ∧ ThenExpires u t ∧ EntryFreed i id s u ∧
        u.flt = s.flt.append (unreported i (some st) s) ∧
        u = { s with
              waiting := u.waiting, rqt := u.rqt, dt := u.dt, mnt := u.mnt, flt := u.flt
              mli := { s.mli with flights := fs } })

/-! ## CREDIT, LINK_UP, LINK_DOWN -/

/-- R110, R136: a CREDIT raises the count by n, to at most 16, while the link is UP, and is dropped otherwise; a
LINK_UP makes a DOWN link UP, and is dropped otherwise. -/
def Obligations.CreditAndLinkUp : Prop :=
  ∀ (s : State) (n : Fin 32), s.powerOn = false →
    (s.mli.state = .up →
      exec (.credit n) s =
        .next { s with mli := { s.mli with credits := min (s.mli.credits + n.val) 16 } }) ∧
    (s.mli.state ≠ .up → exec (.credit n) s = .next s) ∧
    (s.mli.state = .down → exec .linkUp s = .next { s with mli := { s.mli with state := .up } }) ∧
    (s.mli.state ≠ .down → exec .linkUp s = .next s)

/-- R140–R144: a LINK_DOWN taken while the link is DOWN changes nothing.  One taken while the link is UP or
RESETTING, in any state that meets the invariants: the link is DOWN with LINK_RESET released and no credits,
every tag is FREE, the In-Flight Write List is empty, the QUEUED records alone stay in the queue, WAITING and
ISSUED entries are HELD(LINK_DOWN), ORPHANED ones are FREE and offered in ascending order after the rest, and the
log takes the LINK_DOWN record with the list's size and then the members' records in list order. -/
def Obligations.LinkDownSettlesAllWorkInFlight : Prop :=
  (∀ s : State, s.mli.state = .down → exec .linkDown s = .next s) ∧
  ∀ s : State, s.Inv → s.powerOn = false → s.mli.state ≠ .down →
    ∃ t, exec .linkDown s = .next t ∧
      t.mli.state = .down ∧ t.mli.linkReset = false ∧ t.mli.credits = 0 ∧ t.mli.flights = [] ∧
      (∀ u : TagNo, t.mli.tags[u] = .free) ∧
      t.pwq = s.pwq.filter (fun w => w.state = .queued) ∧
      (∃ es : Vector Entry 24, (∀ j : EntryNo, es[j] = lostAs s s.dt.entries[j]) ∧
        (t.waiting, t.dt.entries) =
          offerAll s.mnt.settings.reservationTime.toNat
            (ascending fun j => s.dt.entries[j].state = .orphaned) (s.waiting, es)) ∧
      t.dt.age = s.dt.age.filter (fun j => s.dt.entries[j].state ≠ .orphaned) ∧
      t.flt = s.flt.appendAll
        ({ kind := .linkDown, time := s.ticks, count := some s.mli.flights.length } ::
          lossRecords s (s.mli.flights.map FlightMember.ref) s.pwq) ∧
      t.mnt = { s.mnt with opState := opAfter s t } ∧
      t = { s with
            mli := t.mli, pwq := t.pwq, waiting := t.waiting, dt := t.dt, flt := t.flt, mnt := t.mnt }

/-! ## The timers -/

/-- R188: a timer expires at the tick at which its time is reached.  A tick first takes every expiry that is due,
as the expiry commands take them one after another: none when none is due, and, in a state whose settings and entries
are legal, all of them, so that no timer outlasts its tick.  It then raises the 32-bit count by one, wrapping, and
every running timer with ticks left has one fewer; nothing else changes.  The model's own are the order of the
expiries that one tick takes and that the queue may give them earlier in their tick (log entry 29, DESIGN CHOICE), and
that a member of the In-Flight Write List counts up, in a field that does not wrap (log entry 9, DESIGN CHOICE). -/
def Obligations.TickTakesDueExpiriesAndCounts : Prop :=
  ∀ s : State, s.powerOn = false →
    ∃ u t, Runs (dueExpiries s) s u ∧ (NoneDue s → u = s) ∧
      (s.SettingsLegal → s.EntriesFormed → NoneDue u) ∧
      exec .timebaseTick s = .next t ∧
      t.ticks.toNat = (s.ticks.toNat + 1) % 2 ^ 32 ∧
      (∀ i : EntryNo, t.dt.entries[i] =
        { u.dt.entries[i] with
          completionTimer := u.dt.entries[i].completionTimer.map (· - 1)
          discardTimer := u.dt.entries[i].discardTimer.map (· - 1)
          reservationTimer := u.dt.entries[i].reservationTimer.map (· - 1) }) ∧
      t.dt.age = u.dt.age ∧
      t.mli = { u.mli with
                flights := u.mli.flights.map fun f => { f with elapsed := f.elapsed + 1 } } ∧
      t = { u with ticks := t.ticks, dt := t.dt, mli := t.mli }

/-- R62, R122, R125: the completion timer of a READ expires: its tag is QUARANTINED with what it keeps and a
READ_TIMEOUT record is made; an ISSUED entry becomes HELD(TIMEOUT) and an ORPHANED one becomes FREE; when that
makes 8 QUARANTINED tags while the link is UP, the link goes to RESETTING with a QUARANTINE_LIMIT record behind
the other.  That more than 8, in a state no run reaches, act as 8 do, with their number as the record's count, is the
model's (log entry 25, DEDUCED). -/
def Obligations.CompletionTimeoutQuarantinesTag : Prop :=
  ∀ (s : State) (i : EntryNo) (u : TagNo) (r : RequesterNo) (l : DownLine) (sp : Span),
    s.dt.entries[i].completionTimer = some 0 → s.dt.entries[i].tag = some u →
    s.dt.entries[i].requester = some r → s.dt.entries[i].line = some l →
    s.dt.entries[i].span = some sp →
    ∀ (tags : Vector Tag 32) (n : Nat) (mli : MemoryLink) (flt : FaultUnit),
    tags = s.mli.tags.set u (.quarantined r (l ++ sp.offset) i) →
    n = (List.finRange 32).countP (fun v => tags[v].code == 2) →
    mli = (if 8 ≤ n ∧ s.mli.state = .up then
        { s.mli with tags := tags, state := .resetting, linkReset := true, credits := 0 }
      else { s.mli with tags := tags }) →
    flt = s.flt.appendAll
      ({ recordOf .readTimeout i s with tag := some u } ::
        (if 8 ≤ n ∧ s.mli.state = .up then
          [{ kind := .quarantineLimit, time := s.ticks, tag := some u, count := some n }]
         else [])) →
    (s.dt.entries[i].state = .issued →
      exec (.completionTimerExpiry i) s = .next
        { s with
          dt := { s.dt with
                  entries := s.dt.entries.set i
                    (heldWith .timeout s.dt.entries[i].data s s.dt.entries[i]) }
          mli := mli, flt := flt }) ∧
    (s.dt.entries[i].state = .orphaned →
      ∃ t, exec (.completionTimerExpiry i) s = .next t ∧ EntryFreed i id s t ∧
        t = { s with
              waiting := t.waiting, rqt := t.rqt, dt := t.dt, mnt := t.mnt, mli := mli, flt := flt })

/-- R130: the head's time since its issue reaches the ACK_TIMEOUT it recorded: while the link is UP an
ACK_TIMEOUT record is made and the link goes to RESETTING, every member staying in the list; while the link is
not UP nothing happens.  That the command changes nothing while the time is not reached is the model's choice and
no rule's (log entry 5); the model's own too are the count that gives the time since the issue (log entry 9) and that
a posted head stands for the first record of the queue (log entry 19). -/
def Obligations.AckTimeoutResetsLink : Prop :=
  ∀ (s : State) (f : FlightMember) (fs : List FlightMember), s.mli.flights = f :: fs →
    (f.ackTimeout ≤ f.elapsed → s.mli.state = .up → ∀ (w : PostedWrite) (ws : List PostedWrite),
      f.ref = .posted → s.pwq = w :: ws →
      exec .ackTimerExpiry s = .next
        { s with
          mli := { s.mli with state := .resetting, linkReset := true, credits := 0 }
          flt := s.flt.append
            { kind := .ackTimeout, time := s.ticks, requester := some w.requester,
              down := some w.address } }) ∧
    (f.ackTimeout ≤ f.elapsed → s.mli.state = .up → ∀ i : EntryNo, f.ref = .npWrite i →
      exec .ackTimerExpiry s = .next
        { s with
          mli := { s.mli with state := .resetting, linkReset := true, credits := 0 }
          flt := s.flt.append { recordOf .ackTimeout i s with up := none } }) ∧
    ((f.elapsed < f.ackTimeout ∨ s.mli.state ≠ .up) → exec .ackTimerExpiry s = .next s)

/-- R58: the discard timer of a HELD entry expires: the entry becomes FREE and is offered, its requester's
discard counter rises by one unless at 255, and a record is made, NP_WRITE_DISCARD for an NP_WRITE and DISCARD
for the others, with the entry's result as its status. -/
def Obligations.DiscardFreesHeldEntry : Prop :=
  ∀ (s : State) (i : EntryNo), s.dt.entries[i].state = .held →
    s.dt.entries[i].discardTimer = some 0 →
    ∃ t, exec (.discardTimerExpiry i) s = .next t ∧
      EntryFreed i (fun x => { x with discards := upTo255 x.discards }) s t ∧
      t = { s with
            waiting := t.waiting, rqt := t.rqt, dt := t.dt, mnt := t.mnt
            flt := s.flt.append
              { recordOf
                  (if s.dt.entries[i].kind = some .npWrite then .npWriteDiscard else .discard) i s with
                status := s.dt.entries[i].result } }

/-- R82: a reservation timer expires: its requester loses the reservation, and the entry is reserved for the
head of the Waiting List, which leaves the list, with a new timer, or becomes unreserved; no refusal is counted
and nothing else changes. -/
def Obligations.ReservationExpiryPassesEntryOn : Prop :=
  ∀ (s : State) (i : EntryNo), s.dt.entries[i].state = .free →
    s.dt.entries[i].reservationTimer = some 0 →
    exec (.reservationTimerExpiry i) s = .next
      { s with
        waiting := s.waiting.tail
        dt := { s.dt with
                entries := s.dt.entries.set i
                  { s.dt.entries[i] with
                    reservedFor := s.waiting.head?
                    reservationTimer :=
                      s.waiting.head?.map fun _ => s.mnt.settings.reservationTime.toNat } } }

/-- R80: entries offered together are reserved in the order offered, the first for the head of the Waiting List
and so on until the list is empty; the requesters leave the list in that order; entries beyond them, and entries
not offered, are unchanged. -/
def Obligations.OfferReservesInListOrder : Prop :=
  ∀ (time : Nat) (is : List EntryNo) (w : List RequesterNo) (es : Vector Entry 24), is.Nodup →
    (offerAll time is (w, es)).1 = w.drop is.length ∧
    (∀ (k : Nat) (h : k < is.length),
      (offerAll time is (w, es)).2[is[k]] =
        if h' : k < w.length then
          { es[is[k]] with reservedFor := some w[k], reservationTimer := some time }
        else es[is[k]]) ∧
    ∀ j : EntryNo, j ∉ is → (offerAll time is (w, es)).2[j] = es[j]

/-! ## The commands of the Maintenance Port -/

/-- R28, R68, R71, R74, R138, R166, R167, R176, R178, R180, R182: the refusals of the commands, each in
CMD_STATUS with its code and acting on nothing else: in LOADING each command row with STATE, the unnamed codes
among them; outside LOADING each command by its own tests, and a code that names no command with BAD_ARG, which
is the whole effect of the row UNNAMED_COMMAND_CODE. -/
def Obligations.RefusedCommandsActOnNothing : Prop :=
  ∀ (d : DeviceAddr) (a c : Byte) (s : State), Addressed d s →
    (s.mnt.opState = .loading →
      exec (.windowCommit d a) s = .next (withStatus 1 .state s) ∧
      exec (.requesterCommit d a) s = .next (withStatus 2 .state s) ∧
      exec (.logPop d a) s = .next (withStatus 3 .state s) ∧
      exec (.logClear d a) s = .next (withStatus 4 .state s) ∧
      exec (.counterClear d a) s = .next (withStatus 5 .state s) ∧
      exec (.entryView d a) s = .next (withStatus 6 .state s) ∧
      exec (.quiesce d a) s = .next (withStatus 7 .state s) ∧
      exec (.resume d a) s = .next (withStatus 8 .state s) ∧
      exec (.pathReset d a) s = .next (withStatus 9 .state s) ∧
      exec (.linkReset d a) s = .next (withStatus 10 .state s) ∧
      exec (.unnamedCommandCode d c a) s = .next (withStatus c .state s)) ∧
    (s.mnt.opState ≠ .loading →
      (12 ≤ a.toNat → exec (.windowCommit d a) s = .next (withStatus 1 .badArg s)) ∧
      (a.toNat < 12 → s.wt.staging.enabled = true → ¬ LegalWindow s.wt.staging →
        exec (.windowCommit d a) s = .next (withStatus 1 .badWindow s)) ∧
      ((32 ≤ a.toNat ∨ s.rqt.staging.quota.toNat < 1 ∨ 24 < s.rqt.staging.quota.toNat) →
        exec (.requesterCommit d a) s = .next (withStatus 2 .badArg s)) ∧
      (s.flt.log = [] → exec (.logPop d a) s = .next (withStatus 3 .state s)) ∧
      (32 ≤ a.toNat → exec (.counterClear d a) s = .next (withStatus 5 .badArg s)) ∧
      (24 ≤ a.toNat → exec (.entryView d a) s = .next (withStatus 6 .badArg s)) ∧
      (s.mnt.opState ≠ .active → exec (.quiesce d a) s = .next (withStatus 7 .state s)) ∧
      (s.mnt.opState = .active → exec (.resume d a) s = .next (withStatus 8 .state s)) ∧
      (s.mli.state ≠ .up → exec (.linkReset d a) s = .next (withStatus 10 .state s)) ∧
      ((c.toNat = 0 ∨ 10 < c.toNat) →
        exec (.unnamedCommandCode d c a) s = .next (withStatus c .badArg s)))

/-- R29, R30, R31: an accepted WINDOW_COMMIT replaces window n whole with the staging record and withdraws the
entries created under it: each leaves its requester's held count, the freed ones are offered in ascending
order, and each freed HELD NP_WRITE makes a record.  The staging record, the queue, the link and the other
windows are unchanged. -/
def Obligations.WindowCommitReplacesAndRevokes : Prop :=
  ∀ (d : DeviceAddr) (a : Byte) (s : State) (n : WindowNo), Commanded d s → a.toNat = n.val →
    (s.wt.staging.enabled = false ∨ LegalWindow s.wt.staging) →
    ∃ t, exec (.windowCommit d a) s = .next t ∧
      t.wt = { s.wt with windows := s.wt.windows.set n s.wt.staging } ∧
      (∃ es : Vector Entry 24, Withdrawn (fun j => s.dt.entries[j].window = some n) es s t ∧
        (t.waiting, t.dt.entries) =
          offerAll s.mnt.settings.reservationTime.toNat
            (ascending fun j => s.dt.entries[j].window = some n ∧
              (s.dt.entries[j].state = .waiting ∨ s.dt.entries[j].state = .held)) (s.waiting, es)) ∧
      (∀ r : RequesterNo, t.rqt.requesters[r] =
        { s.rqt.requesters[r] with
          held := s.rqt.requesters[r].held -
            liveOf (fun j => s.dt.entries[j].window = some n) r s }) ∧
      t.rqt.staging = s.rqt.staging ∧
      t.mnt = { s.mnt with opState := opAfter s t, cmdOutcome := .ok, cmdCode := 1 } ∧
      t = { s with
            wt := t.wt, rqt := t.rqt, waiting := t.waiting, dt := t.dt, flt := t.flt, mnt := t.mnt }

/-- R74, R75, R76: an accepted REQUESTER_COMMIT with enabled yes writes the two configuration fields of its
requester and changes nothing else; one with enabled no also withdraws every entry of its requester, whose held
count becomes 0, takes it off the Waiting List, releases its reservation, and offers the released entry and the
freed ones together in ascending order. -/
def Obligations.RequesterCommitWritesAndWithdraws : Prop :=
  ∀ (d : DeviceAddr) (a : Byte) (s : State) (r : RequesterNo), Commanded d s → a.toNat = r.val →
    1 ≤ s.rqt.staging.quota.toNat → s.rqt.staging.quota.toNat ≤ 24 →
    (s.rqt.staging.enabled = true →
      ∃ t, exec (.requesterCommit d a) s = .next t ∧
        RequesterChanged r
          (fun x => { x with enabled := true, quota := s.rqt.staging.quota.toNat }) s t ∧
        t = withStatus 2 .ok { s with rqt := t.rqt }) ∧
    (s.rqt.staging.enabled = false →
      ∃ t, exec (.requesterCommit d a) s = .next t ∧
        RequesterChanged r
          (fun x => { x with enabled := false, quota := s.rqt.staging.quota.toNat, held := 0 }) s t ∧
        (∃ es es' : Vector Entry 24, Withdrawn (fun j => s.dt.entries[j].requester = some r) es s t ∧
          (∀ j : EntryNo, es'[j] =
            if es[j].reservedFor = some r then
              { es[j] with reservedFor := none, reservationTimer := none }
            else es[j]) ∧
          (t.waiting, t.dt.entries) =
            offerAll s.mnt.settings.reservationTime.toNat
              (ascending fun j =>
                (s.dt.entries[j].requester = some r ∧
                  (s.dt.entries[j].state = .waiting ∨ s.dt.entries[j].state = .held)) ∨
                s.dt.entries[j].reservedFor = some r)
              (s.waiting.filter (fun q => q ≠ r), es')) ∧
        t.mnt = { s.mnt with opState := opAfter s t, cmdOutcome := .ok, cmdCode := 2 } ∧
        t = { s with rqt := t.rqt, waiting := t.waiting, dt := t.dt, flt := t.flt, mnt := t.mnt })

/-- R164, R165: a record joins the tail of a log of fewer than 16 records; a full log keeps its records, drops
the new one and sets OVERFLOW; the alert-enables are unchanged and ALERT takes the level of R171. -/
def Obligations.AppendKeepsOrDropsRecord : Prop :=
  ∀ (r : FaultRecord) (f : FaultUnit),
    (f.append r).log = (if f.log.length < 16 then f.log ++ [r] else f.log) ∧
    (f.append r).overflow = (f.overflow || decide (16 ≤ f.log.length)) ∧
    (f.append r).alertEnable = f.alertEnable ∧
    ((f.append r).alert = true ↔
      (∃ x ∈ (f.append r).log, f.alertEnable.getLsbD x.kind.code = true) ∨
        ((f.append r).overflow = true ∧ f.alertEnable.getLsbD 0 = true))

/-- R166, R167, R171: a LOG_POP in LOADING or with the log empty, and a LOG_CLEAR in LOADING, is refused with
STATE; an accepted LOG_POP removes the oldest record and leaves OVERFLOW; a LOG_CLEAR removes every record and
clears OVERFLOW; ALERT takes the level the log then calls for; nothing else changes. -/
def Obligations.LogPopAndLogClear : Prop :=
  ∀ (d : DeviceAddr) (a : Byte) (s : State), Addressed d s →
    ((s.mnt.opState = .loading ∨ s.flt.log = []) →
      exec (.logPop d a) s = .next (withStatus 3 .state s)) ∧
    (s.mnt.opState = .loading → exec (.logClear d a) s = .next (withStatus 4 .state s)) ∧
    (s.mnt.opState ≠ .loading →
    (∀ x rest, s.flt.log = x :: rest →
      ∃ t, exec (.logPop d a) s = .next t ∧
        t.flt.log = rest ∧ t.flt.overflow = s.flt.overflow ∧ t.flt.alertEnable = s.flt.alertEnable ∧
        t.flt.alert = t.flt.level ∧ t = withStatus 3 .ok { s with flt := t.flt }) ∧
    ∃ t, exec (.logClear d a) s = .next t ∧
      t.flt = { log := [], overflow := false, alertEnable := s.flt.alertEnable, alert := false } ∧
      t = withStatus 4 .ok { s with flt := t.flt })

/-- R68, R69, R71: an accepted COUNTER_CLEAR sets both counters of its requester to 0; an accepted ENTRY_VIEW
captures the whole of its entry with its position in the age order, counted from 1, or 0; an ENTRY_VIEW in
LOADING is refused with STATE and one of a number above 23 with BAD_ARG; nothing else changes. -/
def Obligations.CounterClearAndEntryView : Prop :=
  ∀ (d : DeviceAddr) (a : Byte) (s : State), Addressed d s →
    (s.mnt.opState = .loading → exec (.entryView d a) s = .next (withStatus 6 .state s)) ∧
    (s.mnt.opState ≠ .loading → 24 ≤ a.toNat →
      exec (.entryView d a) s = .next (withStatus 6 .badArg s)) ∧
    (s.mnt.opState ≠ .loading →
    (∀ r : RequesterNo, a.toNat = r.val →
      ∃ t, exec (.counterClear d a) s = .next t ∧
        RequesterChanged r (fun x => { x with refusals := 0, discards := 0 }) s t ∧
        t = withStatus 5 .ok { s with rqt := t.rqt }) ∧
    ∀ i : EntryNo, a.toNat = i.val →
      ∃ t, exec (.entryView d a) s = .next t ∧
        t.mnt.snapshot.number = i ∧ t.mnt.snapshot.entry = s.dt.entries[i] ∧
        (i ∉ s.dt.age → t.mnt.snapshot.agePosition = 0) ∧
        (∀ pre post, s.dt.age = pre ++ i :: post → i ∉ pre →
          t.mnt.snapshot.agePosition = pre.length + 1) ∧
        t = withStatus 6 .ok { s with mnt := { s.mnt with snapshot := t.mnt.snapshot } })

/-- R138, R178, R180: QUIESCE moves an ACTIVE part to QUIESCED when every entry is FREE and the queue is empty,
and to QUIESCING otherwise; RESUME moves a QUIESCING or QUIESCED part to ACTIVE; LINK_RESET moves an UP link to
RESETTING; each is refused with STATE in the other states; nothing else changes. -/
def Obligations.QuiesceResumeAndLinkReset : Prop :=
  ∀ (d : DeviceAddr) (a : Byte) (s : State), Addressed d s →
    (s.mnt.opState ≠ .active → exec (.quiesce d a) s = .next (withStatus 7 .state s)) ∧
    ((s.mnt.opState = .loading ∨ s.mnt.opState = .active) →
      exec (.resume d a) s = .next (withStatus 8 .state s)) ∧
    ((s.mnt.opState = .loading ∨ s.mli.state ≠ .up) →
      exec (.linkReset d a) s = .next (withStatus 10 .state s)) ∧
    (s.mnt.opState = .active → (∀ i : EntryNo, s.dt.entries[i].state = .free) → s.pwq = [] →
      exec (.quiesce d a) s =
        .next (withStatus 7 .ok { s with mnt := { s.mnt with opState := .quiesced } })) ∧
    (s.mnt.opState = .active → ¬ ((∀ i : EntryNo, s.dt.entries[i].state = .free) ∧ s.pwq = []) →
      exec (.quiesce d a) s =
        .next (withStatus 7 .ok { s with mnt := { s.mnt with opState := .quiescing } })) ∧
    ((s.mnt.opState = .quiescing ∨ s.mnt.opState = .quiesced) →
      exec (.resume d a) s =
        .next (withStatus 8 .ok { s with mnt := { s.mnt with opState := .active } })) ∧
    (s.mnt.opState ≠ .loading → s.mli.state = .up →
      exec (.linkReset d a) s =
        .next (withStatus 10 .ok
          { s with mli := { s.mli with state := .resetting, linkReset := true, credits := 0 } }))

/-- R182, R67, R84, R96, R145: a PATH_RESET frees every entry and tag, empties the queue, the In-Flight Write
List, the Waiting List and the age order, clears the held counts, the credits and the streak, and moves an UP
link to RESETTING, with its records in their order; everything R182 keeps is kept; in LOADING it is refused with
STATE. -/
def Obligations.PathResetClearsPath : Prop :=
  ∀ (d : DeviceAddr) (a : Byte) (s : State), Addressed d s →
    (s.mnt.opState = .loading → exec (.pathReset d a) s = .next (withStatus 9 .state s)) ∧
    (s.mnt.opState ≠ .loading →
    ∃ t, exec (.pathReset d a) s = .next t ∧
      (∀ i : EntryNo, t.dt.entries[i] = Entry.free) ∧ t.dt.age = [] ∧ t.pwq = [] ∧ t.waiting = [] ∧
      t.rqt.staging = s.rqt.staging ∧
      (∀ r : RequesterNo, t.rqt.requesters[r] = { s.rqt.requesters[r] with held := 0 }) ∧
      t.mli.state = (if s.mli.state = .up then .resetting else s.mli.state) ∧
      t.mli.linkReset = (s.mli.linkReset || decide (s.mli.state = .up)) ∧
      t.mli.credits = 0 ∧ t.mli.flights = [] ∧ (∀ u : TagNo, t.mli.tags[u] = .free) ∧
      t.flt = s.flt.appendAll
        ((ascending (fun j => s.dt.entries[j].kind = some .npWrite ∧
              (s.dt.entries[j].state = .held ∨ s.dt.entries[j].state = .issued ∨
                s.dt.entries[j].state = .orphaned))).map
            (fun j => unreported j
              (if s.dt.entries[j].state = .held then s.dt.entries[j].result else none) s)
          ++ (if s.pwq = [] then []
              else [{ kind := .pathResetDiscard, time := s.ticks, count := some s.pwq.length }])) ∧
      t.mnt = { s.mnt with
                opState := if s.mnt.opState = .quiescing then .quiesced else s.mnt.opState
                cmdOutcome := .ok, cmdCode := 9 } ∧
      t = { s with
            dt := t.dt, pwq := t.pwq, waiting := t.waiting, rqt := t.rqt, streak := 0, mli := t.mli,
            flt := t.flt, mnt := t.mnt })

/-! ## Registers -/

/-- R170, R171, R175: a write of ALERT_ENABLE replaces every alert-enable and ALERT takes the level of the
result; a read of MNT_STATUS returns the register as it stands, ACCESS_ERROR in bit 4, most significant byte
first and 0xFF beyond the fourth byte, and clears the flag; nothing else changes.  The latch that keeps the bytes
sent is the model's own (log entry 4). -/
def Obligations.AlertEnableWriteAndStatusRead : Prop :=
  ∀ (d : DeviceAddr) (v : Word) (s : State), Addressed d s →
    (∃ t, exec (.alertEnableWrite d v) s = .next t ∧
      (∀ b, b < 23 → t.flt.alertEnable.getLsbD b = v.getLsbD b) ∧
      t.flt.log = s.flt.log ∧ t.flt.overflow = s.flt.overflow ∧ t.flt.alert = t.flt.level ∧
      t = { s with flt := t.flt }) ∧
    ∀ n : Nat, 1 ≤ n →
      ∃ t w, exec (.mntStatusRead d n) s = .next t ∧
        t.out = { s.out with portRead := (wordBytes w ++ List.replicate (n - 4) 0xFF#8).take n } ∧
        w = s.readRegister 4 ∧ w.getLsbD 4 = s.mnt.accessError ∧
        t = { s with mnt := { s.mnt with accessError := false }, out := t.out }

/-- R175, R187: a write of DISCARD_TIME, COMPLETION_TIMEOUT, ACK_TIMEOUT or RESERVATION_TIME takes a value in
range and ignores 0 with ACCESS_ERROR set; a PATH_CTRL write takes all three of its settings or none. -/
def Obligations.SettingsWritesAreRangeTested : Prop :=
  ∀ (w : PortWrite) (v : Word) (s : State), Addressed w.device s →
    w.data = [v.extractLsb' 24 8, v.extractLsb' 16 8, v.extractLsb' 8 8, v.extractLsb' 0 8] →
    (∀ f : BitVec 16 → Settings,
      ((w.address = 0x0010#16 ∧ f = fun x => { s.mnt.settings with discardTime := x }) ∨
        (w.address = 0x0014#16 ∧ f = fun x => { s.mnt.settings with completionTimeout := x }) ∨
        (w.address = 0x0018#16 ∧ f = fun x => { s.mnt.settings with ackTimeout := x })) →
      exec (.registerWrite w) s = .next
        (if v.toNat % 65536 = 0 then { s with mnt := { s.mnt with accessError := true } }
         else { s with mnt := { s.mnt with settings := f (v.extractLsb' 0 16) } })) ∧
    (w.address = 0x001C#16 →
      exec (.registerWrite w) s = .next
        (if v.toNat % 1024 = 0 then { s with mnt := { s.mnt with accessError := true } }
         else
          { s with
            mnt := { s.mnt with
                     settings := { s.mnt.settings with reservationTime := v.extractLsb' 0 10 } } })) ∧
    (w.address = 0x0020#16 →
      exec (.registerWrite w) s = .next
        (if v.toNat % 32 = 0 ∨ 16 < v.toNat % 32 then
          { s with mnt := { s.mnt with accessError := true } }
         else
          { s with
            mnt := { s.mnt with
                     settings := { s.mnt.settings with writeBurst := v.extractLsb' 0 5 } }
            wt := { s.wt with
                    missPolicy := if v.getLsbD 8 = true then .fill else .fault
                    missLogging := v.getLsbD 9 } }))

/-- R26, R73, R174, R175: a write of a staging or select register replaces the fields it covers, whatever the
value, and keeps the others; a write that ends with fewer than four data bytes, one of a read-only register and one of an unmapped
address are ignored with ACCESS_ERROR set; bytes after the fourth are discarded. -/
def Obligations.StagingAndErrorWrites : Prop :=
  ∀ (w : PortWrite) (v : Word) (extra : List Byte) (s : State), Addressed w.device s →
    (w.data.length < 4 →
      exec (.registerWrite w) s = .next { s with mnt := { s.mnt with accessError := true } }) ∧
    (w.data = [v.extractLsb' 24 8, v.extractLsb' 16 8, v.extractLsb' 8 8, v.extractLsb' 0 8] ++ extra →
      (w.address = 0x003C#16 →
        exec (.registerWrite w) s =
          .next { s with wt := { s.wt with staging := { s.wt.staging with mask := v } } }) ∧
      (w.address = 0x0034#16 →
        ∃ x, exec (.registerWrite w) s = .next x ∧
          x.wt.staging.upBase.toNat = s.wt.staging.upBase.toNat / 2 ^ 32 * 2 ^ 32 + v.toNat ∧
          x = { s with
                wt := { s.wt with
                        staging := { s.wt.staging with upBase := x.wt.staging.upBase } } }) ∧
      (w.address = 0x0038#16 →
        ∃ x, exec (.registerWrite w) s = .next x ∧
          x.wt.staging.target.toNat = s.wt.staging.target.toNat / 2 ^ 32 * 2 ^ 32 + v.toNat ∧
          x = { s with
                wt := { s.wt with
                        staging := { s.wt.staging with target := x.wt.staging.target } } }) ∧
      (w.address = 0x0030#16 →
        ∃ x, exec (.registerWrite w) s = .next x ∧
          x.wt.staging.enabled = v.getLsbD 0 ∧ x.wt.staging.k.toNat = v.toNat / 4 % 64 ∧
          x.wt.staging.writeMode.code = v.toNat / 256 % 4 ∧
          (x.wt.staging.fetchMode = if v.getLsbD 10 = true then .line else .exact) ∧
          (x.wt.staging.holdMode = if v.getLsbD 11 = true then .asFetched else .coherent) ∧
          x.wt.staging.upBase.toNat =
            v.toNat / 4096 % 256 * 2 ^ 32 + s.wt.staging.upBase.toNat % 2 ^ 32 ∧
          x.wt.staging.target.toNat =
            v.toNat / 2 ^ 20 * 2 ^ 32 + s.wt.staging.target.toNat % 2 ^ 32 ∧
          x = { s with
                wt := { s.wt with staging := { x.wt.staging with mask := s.wt.staging.mask } } }) ∧
      (w.address = 0x0040#16 →
        exec (.registerWrite w) s = .next { s with mnt := { s.mnt with wvSelect := v.extractLsb' 0 8 } }) ∧
      (w.address = 0x0064#16 →
        exec (.registerWrite w) s = .next { s with mnt := { s.mnt with rvSelect := v.extractLsb' 0 8 } }) ∧
      (w.address = 0x0070#16 →
        exec (.registerWrite w) s = .next { s with mnt := { s.mnt with evIndex := v.extractLsb' 0 5 } }) ∧
      (w.address = 0x00A0#16 →
        exec (.registerWrite w) s = .next { s with mnt := { s.mnt with tagSelect := v.extractLsb' 0 8 } }) ∧
      (w.address = 0x0060#16 →
        exec (.registerWrite w) s = .next
          { s with
            rqt := { s.rqt with
                     staging := { enabled := v.getLsbD 0, quota := v.extractLsb' 8 8 } } }) ∧
      (w.address.toNat ∉ [0x0008, 0x0010, 0x0014, 0x0018, 0x001C, 0x0020, 0x0024, 0x0030, 0x0034,
            0x0038, 0x003C, 0x0040, 0x0060, 0x0064, 0x0070, 0x00A0] →
        exec (.registerWrite w) s = .next { s with mnt := { s.mnt with accessError := true } }))

/-- R27, R69, R77, R99, R133, R173, R174, R175: every register of the window reads as section 10.8 lays it out:
the port's own registers, the read-back of those that can be written, and the views, the window, requester and tag
views showing the record their select register names, or 0 while it names none; EV_WORD shows the selected word of
the snapshot, and an unmapped address reads 0.  The model's own here are the k of 64 or more of a window view (log
entry 2), the presence bits of word 22 (13, and 28 for a FREE entry without a reservation), the address of a LINE key
in words 19 and 20 (20), the order of the presence bits of LOG_STATUS (26), the count behind LINK_HEAD_TICKS (9), that
a reservation is read from the entry that bears it (24), and that a read is a function of the state (7). -/
def Obligations.ViewsShowTheSelectedRecord : Prop :=
  ∀ s : State,
    StatusRegistersRight s ∧ WrittenRegistersReadBack s ∧ WindowViewRight s ∧ RequesterViewRight s ∧
      TagViewRight s ∧ QueueViewRight s ∧ LinkViewRight s ∧ LogViewRight s ∧
      ShowsSnapshot s.mnt.snapshot s.mnt.evIndex.toNat (s.readRegister 0x0074#16) ∧
      ∀ a : BitVec 16, a.toNat ∉ mapped → s.readRegister a = 0

/-! ## Resets and the load -/

/-- R184, R174: POWER_ON_RESET returns every block to the state right after reset, whatever the state before it
(in which the straps at 0, the empty output latches, the input that stays asserted and the queue of commands that is
kept are the model's, log entries 10, 4, 15 and 8);
while the input is asserted every Memory Link message and indication is ignored, and so is every transaction of
the port, as is one addressed to another device at any time; the deassertion starts the Timebase from 0 and
samples the straps. -/
def Obligations.PowerOnResetAndDeassertion : Prop :=
  ∀ (s : State) (p : BitVec 2),
    exec .powerOnReset s = .next { State.reset with pending := s.pending } ∧
    (s.powerOn = true →
      exec (.powerOnResetDeassertion p) s = .next
        { s with powerOn := false, ticks := 0, mnt := { s.mnt with straps := p } }) ∧
    (s.powerOn = true →
      (∀ c : ReadCompletion, exec (.readCpl c) s = .next s) ∧
      (∀ st : LinkStatus, exec (.writeAck st) s = .next s) ∧
      (∀ n : Fin 32, exec (.credit n) s = .next s) ∧
      exec .linkUp s = .next s ∧ exec .linkDown s = .next s) ∧
    ∀ d : DeviceAddr, ¬ Addressed d s →
      ∀ (c a : Byte) (v : Word) (n : Nat) (w : PortWrite), w.device = d →
      ∀ i ∈ [Instr.windowCommit d a, .requesterCommit d a, .logPop d a, .logClear d a, .counterClear d a,
          .entryView d a, .quiesce d a, .resume d a, .pathReset d a, .linkReset d a,
          .unnamedCommandCode d c a, .alertEnableWrite d v, .mntStatusRead d n, .registerWrite w],
        exec i s = .next s

/-- R19, R65, R69, R72, R84, R89, R110, R114, R116, R127, R135, R169, R170, R184, R187, R188: the values the
manual states for power-on reset, block by block. -/
def Obligations.ResetLeavesStatedValues : Prop :=
  let s := State.reset
  let window : Window :=
    { enabled := false, upBase := 0, k := 0, target := 0, mask := 0, writeMode := .posted
      fetchMode := .exact, holdMode := .coherent }
  s.mnt.opState = .loading ∧ s.mnt.loadStatus = .pending ∧ s.mnt.cmdOutcome = .ok ∧ s.mnt.cmdCode = 0 ∧
    s.mnt.accessError = false ∧ s.mnt.wvSelect = 0 ∧ s.mnt.rvSelect = 0 ∧ s.mnt.tagSelect = 0 ∧
    s.mnt.evIndex = 0 ∧ s.mnt.snapshot = { number := 0, agePosition := 0, entry := Entry.free } ∧
    s.mli.state = .down ∧ s.mli.linkReset = false ∧ s.mli.credits = 0 ∧
    s.streak = 0 ∧ s.mli.flights = [] ∧ s.pwq = [] ∧ s.waiting = [] ∧ s.dt.age = [] ∧ s.flt.log = [] ∧
    s.flt.overflow = false ∧ s.flt.alert = false ∧ s.ticks = 0 ∧ s.wt.missPolicy = .fault ∧
    s.wt.missLogging = false ∧
    (∀ n : WindowNo, s.wt.windows[n] = window) ∧ s.wt.staging = window ∧
    (∀ r : RequesterNo, s.rqt.requesters[r] =
      { enabled := false, quota := 4, held := 0, refusals := 0, discards := 0 }) ∧
    s.rqt.staging = { enabled := false, quota := 4 } ∧
    (∀ i : EntryNo, s.dt.entries[i] = Entry.free) ∧ (∀ t : TagNo, s.mli.tags[t] = .free) ∧
    s.mnt.settings.discardTime = 2048 ∧ s.mnt.settings.completionTimeout = 8192 ∧
    s.mnt.settings.ackTimeout = 8192 ∧ s.mnt.settings.reservationTime = 128 ∧
    s.mnt.settings.writeBurst = 4 ∧
    (∀ b : Fin 23, s.flt.alertEnable.getLsbD b.val =
      !decide (b.val ∈ [2, 3, 4, 6, 7, 9, 14, 17]))

/-- R163, R185, R186: END_OF_LOAD makes a LOADING part ACTIVE and applies nothing: with no EEPROM the status is
ABSENT; an image that is cut off in its header, has another signature or announces more than 64 records is BAD with
an IMAGE_BAD record without a count; one cut off in record n is BAD with count n; a whole one with a wrong check is
BAD without a count; and one with a good check whose record n is the first that names no type or fails its tests is
BAD with count n.  The model's own are that bits of a named byte that carry no field fail no record (log entry 18,
DEDUCED), that bytes beyond the announced records are not examined, and in which record an EEPROM that stops within a
byte has stopped (log entry 17). -/
def Obligations.EndOfLoadWithoutGoodImage : Prop :=
  ∀ s : State, s.powerOn = false → s.mnt.opState = .loading →
    (∃ t, exec (.endOfLoad .absent) s = .next t ∧
      t.mnt = { s.mnt with opState := .active, loadStatus := .absent } ∧
      t.flt = { s.flt with alert := s.flt.level } ∧ t = { s with mnt := t.mnt, flt := t.flt }) ∧
    ∀ bs : List Byte,
      (¬ HeaderGood bs → exec (.endOfLoad (.answers bs)) s = .next (loadedBad none s)) ∧
      (HeaderGood bs →
        (∀ n, 1 ≤ n → n ≤ announced bs → 7 + 20 * (n - 1) ≤ bs.length → bs.length < 7 + 20 * n →
          exec (.endOfLoad (.answers bs)) s = .next (loadedBad (some n) s)) ∧
        (RecordsWhole bs → ¬ CheckMatches bs →
          exec (.endOfLoad (.answers bs)) s = .next (loadedBad none s)) ∧
        (RecordsWhole bs → CheckMatches bs →
          ∀ n, 1 ≤ n → n ≤ announced bs → ¬ RecordPasses (recordNo n bs) →
            (∀ m, 1 ≤ m → m < n → RecordPasses (recordNo m bs)) →
            exec (.endOfLoad (.answers bs)) s = .next (loadedBad (some n) s)))

/-- R185, R186: an image that is whole, with a good header and check and with every record passing its tests, is
LOADED: the records, read by the layout of section 10.8, are applied in image order, so that a window, a requester's
enabled field and quota, and the global settings with every alert-enable take what the last record that names them
gives, and keep their values when no record names them; the status is LOADED, the part becomes ACTIVE, ALERT takes
the level the log and the set then call for, and nothing else changes.  The model's own are that bits of a named byte
that carry no field are ignored (log entry 18, DEDUCED) and that bytes beyond the announced records are not examined
(log entry 17). -/
def Obligations.LoadedImageIsApplied : Prop :=
  ∀ (s : State) (bs : List Byte) (rs : List ImageRecord), s.powerOn = false →
    s.mnt.opState = .loading → HeaderGood bs → RecordsWhole bs → CheckMatches bs →
    rs.length = announced bs → (∀ n (h : n < rs.length), LaidOutAs (recordNo (n + 1) bs) rs[n]) →
    ∃ t, exec (.endOfLoad (.answers bs)) s = .next t ∧
      t.mnt = { s.mnt with opState := .active, loadStatus := .loaded, settings := t.mnt.settings } ∧
      t.flt = { s.flt with alertEnable := t.flt.alertEnable, alert := t.flt.level } ∧
      (∀ n : WindowNo, (∀ w, ImageRecord.window n w ∉ rs) → t.wt.windows[n] = s.wt.windows[n]) ∧
      (∀ (n : WindowNo) (w : Window) (pre post : List ImageRecord), rs = pre ++ .window n w :: post →
        (∀ w', ImageRecord.window n w' ∉ post) → t.wt.windows[n] = w) ∧
      (∀ r : RequesterNo, (∀ e q, ImageRecord.requester r e q ∉ rs) →
        t.rqt.requesters[r] = s.rqt.requesters[r]) ∧
      (∀ (r : RequesterNo) (e : Bool) (q : Nat) (pre post : List ImageRecord),
        rs = pre ++ .requester r e q :: post → (∀ e' q', ImageRecord.requester r e' q' ∉ post) →
        t.rqt.requesters[r] = { s.rqt.requesters[r] with enabled := e, quota := q }) ∧
      ((∀ g p l a, ImageRecord.settings g p l a ∉ rs) →
        t.mnt.settings = s.mnt.settings ∧ t.wt.missPolicy = s.wt.missPolicy ∧
          t.wt.missLogging = s.wt.missLogging ∧ t.flt.alertEnable = s.flt.alertEnable) ∧
      (∀ (g : Settings) (p : MissPolicy) (l : Bool) (a : BitVec 23) (pre post : List ImageRecord),
        rs = pre ++ .settings g p l a :: post → (∀ g' p' l' a', ImageRecord.settings g' p' l' a' ∉ post) →
        t.mnt.settings = g ∧ t.wt.missPolicy = p ∧ t.wt.missLogging = l ∧ t.flt.alertEnable = a) ∧
      t.wt.staging = s.wt.staging ∧ t.rqt.staging = s.rqt.staging ∧
      t = { s with wt := t.wt, rqt := t.rqt, mnt := t.mnt, flt := t.flt }

/-- R183, R66, R84: a bus reset withdraws every entry, with one record for each HELD NP_WRITE; the Waiting List,
every reservation and every held count are cleared; the queue, the tags, the In-Flight Write List, the credits,
the streak, the link and the configuration are kept. -/
def Obligations.BusResetWithdrawsEveryEntry : Prop :=
  ∀ s : State,
    ∃ t, exec .busReset s = .next t ∧
      (∃ es : Vector Entry 24, Withdrawn (fun _ => True) es s t ∧
        ∀ j : EntryNo, t.dt.entries[j] =
          { es[j] with reservedFor := none, reservationTimer := none }) ∧
      t.waiting = [] ∧ t.rqt.staging = s.rqt.staging ∧
      (∀ r : RequesterNo, t.rqt.requesters[r] = { s.rqt.requesters[r] with held := 0 }) ∧
      t.mnt = { s.mnt with opState := opAfter s t } ∧
      t = { s with waiting := t.waiting, rqt := t.rqt, dt := t.dt, flt := t.flt, mnt := t.mnt }

/-! ## Invariants that every step keeps -/

/-- Every invariant of Safety.lean holds of the state right after reset. -/
def Obligations.ResetMeetsEveryInvariant : Prop := State.reset.Inv

/-- R88, R110, R112, R127, R161: every step keeps the capacities of the queue, the In-Flight Write List, the
log, the credit count and the streak, and no credit stands while the link is not UP. -/
def Obligations.StepKeepsCapacities : Prop :=
  ∀ s t : State, s.WithinCapacity → step s = .next t → t.WithinCapacity

/-- R134, R171: every step keeps ALERT at the level of the log, the flag and the set, and LINK_RESET asserted
exactly while RESETTING. -/
def Obligations.StepKeepsLinesExact : Prop :=
  ∀ s t : State, s.LinesExact → step s = .next t → t.LinesExact

/-- R18, R28, R70, R185, R187: every step keeps each enabled window legal, and, whatever the windows hold, each
quota in 1–24 and each setting in its range. -/
def Obligations.StepKeepsConfigurationLegal : Prop :=
  ∀ s t : State, step s = .next t →
    (s.WindowsLegal → t.WindowsLegal) ∧ (s.SettingsLegal → t.SettingsLegal)

/-- R41: every step keeps the held count of every requester the number of its entries in WAITING, ISSUED or
HELD. -/
def Obligations.StepKeepsHeldCountsExact : Prop :=
  ∀ s t : State, s.HeldCountsExact → step s = .next t → t.HeldCountsExact

/-- R38, R43: every step keeps the age order the list of the entries that are not FREE, each once, and, whatever
the age order, the match keys of the entries in WAITING, ISSUED or HELD distinct. -/
def Obligations.StepKeepsAgeOrderAndKeys : Prop :=
  ∀ s t : State, step s = .next t →
    (s.AgeOrderExact → t.AgeOrderExact) ∧ (s.KeysDistinct → t.KeysDistinct)

/-- R36, R39: every step keeps in each entry exactly the fields of its kind and state; an answer reaches an entry
of the kind it was asked for by `FlightsExact`, an invariant of its own. -/
def Obligations.StepKeepsEntriesFormed : Prop :=
  ∀ s t : State, s.EntriesFormed → s.FlightsExact → step s = .next t → t.EntriesFormed

/-- R78: every step keeps the Waiting List without repeats, a requester that holds a reservation off it, and at
most one reservation for each requester, on a FREE entry. -/
def Obligations.StepKeepsReservationsExclusive : Prop :=
  ∀ s t : State, s.ReservationsExclusive → step s = .next t → t.ReservationsExclusive

/-- R88: every step keeps the ISSUED records of the queue older than the QUEUED ones, and as many as the posted
members of the In-Flight Write List. -/
def Obligations.StepKeepsQueueOrdered : Prop :=
  ∀ s t : State, s.QueueOrdered → step s = .next t → t.QueueOrdered

/-- R116, R125, R127, R130, R131, R134, R188: every step keeps a tag BOUND exactly to the READ entry in ISSUED or ORPHANED that
bears it, the NP_WRITE members of the In-Flight Write List the NP_WRITE entries in ISSUED or ORPHANED, fewer
than 8 tags QUARANTINED and the head's acknowledgement timer not outlived while the link is UP, and nothing outstanding
while it is DOWN. -/
def Obligations.StepKeepsOutstandingWorkExact : Prop :=
  ∀ s t : State, s.TagsExact → s.FlightsExact → s.LinkSettled → step s = .next t →
    t.TagsExact ∧ t.FlightsExact ∧ t.LinkSettled

/-- R100: every step keeps the pending count of each WAITING SYNC above 0 and at most the occupancy of the
queue; a completion never reaches a SYNC entry by `TagsExact`, an invariant of its own. -/
def Obligations.StepKeepsSyncCountsExact : Prop :=
  ∀ s t : State, s.SyncCountsExact → s.TagsExact → step s = .next t → t.SyncCountsExact

/-- R189: from every state that meets the invariants, a step leaves a QUIESCED part with every entry FREE, the
queue and the In-Flight Write List empty and no tag BOUND, and a LOADING part idle. -/
def Obligations.StepKeepsQuiescedIdle : Prop :=
  ∀ s t : State, s.Inv → step s = .next t → t.QuiescedIdle ∧ t.LoadingIdle
end

