-- ==== Sys2Proof/Laws/State.lean ====
section
/-! SUPPORT. The fields of a state after each named update: one lemma per field per update, true by `rfl`, so
that no later proof unfolds an update. -/

namespace Sys2Proof.Machine

/-! ## `State.log` -/

@[simp] theorem State.log_wt (rs : List FaultRecord) (s : State) : (s.log rs).wt = s.wt := rfl

@[simp] theorem State.log_rqt (rs : List FaultRecord) (s : State) : (s.log rs).rqt = s.rqt := rfl

@[simp] theorem State.log_waiting (rs : List FaultRecord) (s : State) : (s.log rs).waiting = s.waiting := rfl

@[simp] theorem State.log_dt (rs : List FaultRecord) (s : State) : (s.log rs).dt = s.dt := rfl

@[simp] theorem State.log_pwq (rs : List FaultRecord) (s : State) : (s.log rs).pwq = s.pwq := rfl

@[simp] theorem State.log_streak (rs : List FaultRecord) (s : State) : (s.log rs).streak = s.streak := rfl

@[simp] theorem State.log_mli (rs : List FaultRecord) (s : State) : (s.log rs).mli = s.mli := rfl

@[simp] theorem State.log_mnt (rs : List FaultRecord) (s : State) : (s.log rs).mnt = s.mnt := rfl

@[simp] theorem State.log_ticks (rs : List FaultRecord) (s : State) : (s.log rs).ticks = s.ticks := rfl

@[simp] theorem State.log_powerOn (rs : List FaultRecord) (s : State) : (s.log rs).powerOn = s.powerOn := rfl

@[simp] theorem State.log_out (rs : List FaultRecord) (s : State) : (s.log rs).out = s.out := rfl

@[simp] theorem State.log_pending (rs : List FaultRecord) (s : State) : (s.log rs).pending = s.pending := rfl

/-! ## `State.answer` -/

@[simp] theorem State.answer_wt (a : Response) (s : State) : (s.answer a).wt = s.wt := rfl

@[simp] theorem State.answer_rqt (a : Response) (s : State) : (s.answer a).rqt = s.rqt := rfl

@[simp] theorem State.answer_waiting (a : Response) (s : State) : (s.answer a).waiting = s.waiting := rfl

@[simp] theorem State.answer_dt (a : Response) (s : State) : (s.answer a).dt = s.dt := rfl

@[simp] theorem State.answer_pwq (a : Response) (s : State) : (s.answer a).pwq = s.pwq := rfl

@[simp] theorem State.answer_streak (a : Response) (s : State) : (s.answer a).streak = s.streak := rfl

@[simp] theorem State.answer_mli (a : Response) (s : State) : (s.answer a).mli = s.mli := rfl

@[simp] theorem State.answer_flt (a : Response) (s : State) : (s.answer a).flt = s.flt := rfl

@[simp] theorem State.answer_mnt (a : Response) (s : State) : (s.answer a).mnt = s.mnt := rfl

@[simp] theorem State.answer_ticks (a : Response) (s : State) : (s.answer a).ticks = s.ticks := rfl

@[simp] theorem State.answer_powerOn (a : Response) (s : State) : (s.answer a).powerOn = s.powerOn := rfl

@[simp] theorem State.answer_pending (a : Response) (s : State) : (s.answer a).pending = s.pending := rfl

/-! ## `State.countRefusal` -/

@[simp] theorem State.countRefusal_wt (r : RequesterNo) (s : State) : (s.countRefusal r).wt = s.wt := rfl

@[simp] theorem State.countRefusal_waiting (r : RequesterNo) (s : State) :
    (s.countRefusal r).waiting = s.waiting := rfl

@[simp] theorem State.countRefusal_dt (r : RequesterNo) (s : State) : (s.countRefusal r).dt = s.dt := rfl

@[simp] theorem State.countRefusal_pwq (r : RequesterNo) (s : State) : (s.countRefusal r).pwq = s.pwq := rfl

@[simp] theorem State.countRefusal_streak (r : RequesterNo) (s : State) :
    (s.countRefusal r).streak = s.streak := rfl

@[simp] theorem State.countRefusal_mli (r : RequesterNo) (s : State) : (s.countRefusal r).mli = s.mli := rfl

@[simp] theorem State.countRefusal_flt (r : RequesterNo) (s : State) : (s.countRefusal r).flt = s.flt := rfl

@[simp] theorem State.countRefusal_mnt (r : RequesterNo) (s : State) : (s.countRefusal r).mnt = s.mnt := rfl

@[simp] theorem State.countRefusal_ticks (r : RequesterNo) (s : State) :
    (s.countRefusal r).ticks = s.ticks := rfl

@[simp] theorem State.countRefusal_powerOn (r : RequesterNo) (s : State) :
    (s.countRefusal r).powerOn = s.powerOn := rfl

@[simp] theorem State.countRefusal_out (r : RequesterNo) (s : State) : (s.countRefusal r).out = s.out := rfl

@[simp] theorem State.countRefusal_pending (r : RequesterNo) (s : State) :
    (s.countRefusal r).pending = s.pending := rfl

/-! ## `State.create` -/

@[simp] theorem State.create_wt (i : EntryNo) (e : Entry) (r : RequesterNo) (s : State) :
    (s.create i e r).wt = s.wt := rfl

@[simp] theorem State.create_pwq (i : EntryNo) (e : Entry) (r : RequesterNo) (s : State) :
    (s.create i e r).pwq = s.pwq := rfl

@[simp] theorem State.create_streak (i : EntryNo) (e : Entry) (r : RequesterNo) (s : State) :
    (s.create i e r).streak = s.streak := rfl

@[simp] theorem State.create_mli (i : EntryNo) (e : Entry) (r : RequesterNo) (s : State) :
    (s.create i e r).mli = s.mli := rfl

@[simp] theorem State.create_flt (i : EntryNo) (e : Entry) (r : RequesterNo) (s : State) :
    (s.create i e r).flt = s.flt := rfl

@[simp] theorem State.create_mnt (i : EntryNo) (e : Entry) (r : RequesterNo) (s : State) :
    (s.create i e r).mnt = s.mnt := rfl

@[simp] theorem State.create_ticks (i : EntryNo) (e : Entry) (r : RequesterNo) (s : State) :
    (s.create i e r).ticks = s.ticks := rfl

@[simp] theorem State.create_powerOn (i : EntryNo) (e : Entry) (r : RequesterNo) (s : State) :
    (s.create i e r).powerOn = s.powerOn := rfl

@[simp] theorem State.create_out (i : EntryNo) (e : Entry) (r : RequesterNo) (s : State) :
    (s.create i e r).out = s.out := rfl

@[simp] theorem State.create_pending (i : EntryNo) (e : Entry) (r : RequesterNo) (s : State) :
    (s.create i e r).pending = s.pending := rfl

/-! ## `State.release` -/

@[simp] theorem State.release_wt (is : List EntryNo) (s : State) :
    (s.release is).wt = s.wt := by simp only [State.release]

@[simp] theorem State.release_waiting (is : List EntryNo) (s : State) :
    (s.release is).waiting = s.waiting := by simp only [State.release]

@[simp] theorem State.release_pwq (is : List EntryNo) (s : State) :
    (s.release is).pwq = s.pwq := by simp only [State.release]

@[simp] theorem State.release_streak (is : List EntryNo) (s : State) :
    (s.release is).streak = s.streak := by simp only [State.release]

@[simp] theorem State.release_mli (is : List EntryNo) (s : State) :
    (s.release is).mli = s.mli := by simp only [State.release]

@[simp] theorem State.release_flt (is : List EntryNo) (s : State) :
    (s.release is).flt = s.flt := by simp only [State.release]

@[simp] theorem State.release_mnt (is : List EntryNo) (s : State) :
    (s.release is).mnt = s.mnt := by simp only [State.release]

@[simp] theorem State.release_ticks (is : List EntryNo) (s : State) :
    (s.release is).ticks = s.ticks := by simp only [State.release]

@[simp] theorem State.release_powerOn (is : List EntryNo) (s : State) :
    (s.release is).powerOn = s.powerOn := by simp only [State.release]

@[simp] theorem State.release_out (is : List EntryNo) (s : State) :
    (s.release is).out = s.out := by simp only [State.release]

@[simp] theorem State.release_pending (is : List EntryNo) (s : State) :
    (s.release is).pending = s.pending := by simp only [State.release]

/-! ## `State.offer` -/

@[simp] theorem State.offer_wt (is : List EntryNo) (s : State) : (s.offer is).wt = s.wt := rfl

@[simp] theorem State.offer_rqt (is : List EntryNo) (s : State) : (s.offer is).rqt = s.rqt := rfl

@[simp] theorem State.offer_pwq (is : List EntryNo) (s : State) : (s.offer is).pwq = s.pwq := rfl

@[simp] theorem State.offer_streak (is : List EntryNo) (s : State) : (s.offer is).streak = s.streak := rfl

@[simp] theorem State.offer_mli (is : List EntryNo) (s : State) : (s.offer is).mli = s.mli := rfl

@[simp] theorem State.offer_flt (is : List EntryNo) (s : State) : (s.offer is).flt = s.flt := rfl

@[simp] theorem State.offer_mnt (is : List EntryNo) (s : State) : (s.offer is).mnt = s.mnt := rfl

@[simp] theorem State.offer_ticks (is : List EntryNo) (s : State) : (s.offer is).ticks = s.ticks := rfl

@[simp] theorem State.offer_powerOn (is : List EntryNo) (s : State) : (s.offer is).powerOn = s.powerOn := rfl

@[simp] theorem State.offer_out (is : List EntryNo) (s : State) : (s.offer is).out = s.out := rfl

@[simp] theorem State.offer_pending (is : List EntryNo) (s : State) : (s.offer is).pending = s.pending := rfl

/-! ## `State.withdraw` -/

@[simp] theorem State.withdraw_wt (p : Entry → Bool) (s : State) :
    (s.withdraw p).wt = s.wt := by simp only [State.withdraw]

@[simp] theorem State.withdraw_waiting (p : Entry → Bool) (s : State) :
    (s.withdraw p).waiting = s.waiting := by simp only [State.withdraw]

@[simp] theorem State.withdraw_pwq (p : Entry → Bool) (s : State) :
    (s.withdraw p).pwq = s.pwq := by simp only [State.withdraw]

@[simp] theorem State.withdraw_streak (p : Entry → Bool) (s : State) :
    (s.withdraw p).streak = s.streak := by simp only [State.withdraw]

@[simp] theorem State.withdraw_mli (p : Entry → Bool) (s : State) :
    (s.withdraw p).mli = s.mli := by simp only [State.withdraw]

@[simp] theorem State.withdraw_mnt (p : Entry → Bool) (s : State) :
    (s.withdraw p).mnt = s.mnt := by simp only [State.withdraw]

@[simp] theorem State.withdraw_ticks (p : Entry → Bool) (s : State) :
    (s.withdraw p).ticks = s.ticks := by simp only [State.withdraw]

@[simp] theorem State.withdraw_powerOn (p : Entry → Bool) (s : State) :
    (s.withdraw p).powerOn = s.powerOn := by simp only [State.withdraw]

@[simp] theorem State.withdraw_out (p : Entry → Bool) (s : State) :
    (s.withdraw p).out = s.out := by simp only [State.withdraw]

@[simp] theorem State.withdraw_pending (p : Entry → Bool) (s : State) :
    (s.withdraw p).pending = s.pending := by simp only [State.withdraw]

/-! ## `State.freshen` -/

@[simp] theorem State.freshen_wt (l : DownLine) (s : State) :
    (s.freshen l).wt = s.wt := by simp only [State.freshen]

@[simp] theorem State.freshen_rqt (l : DownLine) (s : State) :
    (s.freshen l).rqt = s.rqt := by simp only [State.freshen]

@[simp] theorem State.freshen_waiting (l : DownLine) (s : State) :
    (s.freshen l).waiting = s.waiting := by simp only [State.freshen]

@[simp] theorem State.freshen_pwq (l : DownLine) (s : State) :
    (s.freshen l).pwq = s.pwq := by simp only [State.freshen]

@[simp] theorem State.freshen_streak (l : DownLine) (s : State) :
    (s.freshen l).streak = s.streak := by simp only [State.freshen]

@[simp] theorem State.freshen_mli (l : DownLine) (s : State) :
    (s.freshen l).mli = s.mli := by simp only [State.freshen]

@[simp] theorem State.freshen_mnt (l : DownLine) (s : State) :
    (s.freshen l).mnt = s.mnt := by simp only [State.freshen]

@[simp] theorem State.freshen_ticks (l : DownLine) (s : State) :
    (s.freshen l).ticks = s.ticks := by simp only [State.freshen]

@[simp] theorem State.freshen_powerOn (l : DownLine) (s : State) :
    (s.freshen l).powerOn = s.powerOn := by simp only [State.freshen]

@[simp] theorem State.freshen_out (l : DownLine) (s : State) :
    (s.freshen l).out = s.out := by simp only [State.freshen]

@[simp] theorem State.freshen_pending (l : DownLine) (s : State) :
    (s.freshen l).pending = s.pending := by simp only [State.freshen]

/-! ## `State.depart` -/

@[simp] theorem State.depart_wt (r : RequesterNo) (failed : Bool) (s : State) :
    (s.depart r failed).wt = s.wt := by simp only [State.depart]

@[simp] theorem State.depart_rqt (r : RequesterNo) (failed : Bool) (s : State) :
    (s.depart r failed).rqt = s.rqt := by simp only [State.depart]

@[simp] theorem State.depart_waiting (r : RequesterNo) (failed : Bool) (s : State) :
    (s.depart r failed).waiting = s.waiting := by simp only [State.depart]

@[simp] theorem State.depart_streak (r : RequesterNo) (failed : Bool) (s : State) :
    (s.depart r failed).streak = s.streak := by simp only [State.depart]

@[simp] theorem State.depart_mli (r : RequesterNo) (failed : Bool) (s : State) :
    (s.depart r failed).mli = s.mli := by simp only [State.depart]

@[simp] theorem State.depart_flt (r : RequesterNo) (failed : Bool) (s : State) :
    (s.depart r failed).flt = s.flt := by simp only [State.depart]

@[simp] theorem State.depart_mnt (r : RequesterNo) (failed : Bool) (s : State) :
    (s.depart r failed).mnt = s.mnt := by simp only [State.depart]

@[simp] theorem State.depart_ticks (r : RequesterNo) (failed : Bool) (s : State) :
    (s.depart r failed).ticks = s.ticks := by simp only [State.depart]

@[simp] theorem State.depart_powerOn (r : RequesterNo) (failed : Bool) (s : State) :
    (s.depart r failed).powerOn = s.powerOn := by simp only [State.depart]

@[simp] theorem State.depart_out (r : RequesterNo) (failed : Bool) (s : State) :
    (s.depart r failed).out = s.out := by simp only [State.depart]

@[simp] theorem State.depart_pending (r : RequesterNo) (failed : Bool) (s : State) :
    (s.depart r failed).pending = s.pending := by simp only [State.depart]

/-! ## `State.cmdStatus` -/

@[simp] theorem State.cmdStatus_wt (code : Byte) (o : CmdOutcome) (s : State) :
    (s.cmdStatus code o).wt = s.wt := rfl

@[simp] theorem State.cmdStatus_rqt (code : Byte) (o : CmdOutcome) (s : State) :
    (s.cmdStatus code o).rqt = s.rqt := rfl

@[simp] theorem State.cmdStatus_waiting (code : Byte) (o : CmdOutcome) (s : State) :
    (s.cmdStatus code o).waiting = s.waiting := rfl

@[simp] theorem State.cmdStatus_dt (code : Byte) (o : CmdOutcome) (s : State) :
    (s.cmdStatus code o).dt = s.dt := rfl

@[simp] theorem State.cmdStatus_pwq (code : Byte) (o : CmdOutcome) (s : State) :
    (s.cmdStatus code o).pwq = s.pwq := rfl

@[simp] theorem State.cmdStatus_streak (code : Byte) (o : CmdOutcome) (s : State) :
    (s.cmdStatus code o).streak = s.streak := rfl

@[simp] theorem State.cmdStatus_mli (code : Byte) (o : CmdOutcome) (s : State) :
    (s.cmdStatus code o).mli = s.mli := rfl

@[simp] theorem State.cmdStatus_flt (code : Byte) (o : CmdOutcome) (s : State) :
    (s.cmdStatus code o).flt = s.flt := rfl

@[simp] theorem State.cmdStatus_ticks (code : Byte) (o : CmdOutcome) (s : State) :
    (s.cmdStatus code o).ticks = s.ticks := rfl

@[simp] theorem State.cmdStatus_powerOn (code : Byte) (o : CmdOutcome) (s : State) :
    (s.cmdStatus code o).powerOn = s.powerOn := rfl

@[simp] theorem State.cmdStatus_out (code : Byte) (o : CmdOutcome) (s : State) :
    (s.cmdStatus code o).out = s.out := rfl

@[simp] theorem State.cmdStatus_pending (code : Byte) (o : CmdOutcome) (s : State) :
    (s.cmdStatus code o).pending = s.pending := rfl

/-! ## `State.accessError` -/

@[simp] theorem State.accessError_wt (s : State) : (s.accessError).wt = s.wt := rfl

@[simp] theorem State.accessError_rqt (s : State) : (s.accessError).rqt = s.rqt := rfl

@[simp] theorem State.accessError_waiting (s : State) : (s.accessError).waiting = s.waiting := rfl

@[simp] theorem State.accessError_dt (s : State) : (s.accessError).dt = s.dt := rfl

@[simp] theorem State.accessError_pwq (s : State) : (s.accessError).pwq = s.pwq := rfl

@[simp] theorem State.accessError_streak (s : State) : (s.accessError).streak = s.streak := rfl

@[simp] theorem State.accessError_mli (s : State) : (s.accessError).mli = s.mli := rfl

@[simp] theorem State.accessError_flt (s : State) : (s.accessError).flt = s.flt := rfl

@[simp] theorem State.accessError_ticks (s : State) : (s.accessError).ticks = s.ticks := rfl

@[simp] theorem State.accessError_powerOn (s : State) : (s.accessError).powerOn = s.powerOn := rfl

@[simp] theorem State.accessError_out (s : State) : (s.accessError).out = s.out := rfl

@[simp] theorem State.accessError_pending (s : State) : (s.accessError).pending = s.pending := rfl

/-! ## The fields that the updates do change -/

@[simp] theorem State.log_flt (rs : List FaultRecord) (s : State) :
    (s.log rs).flt = s.flt.appendAll rs := rfl

@[simp] theorem State.answer_out (a : Response) (s : State) :
    (s.answer a).out = { s.out with response := some a } := rfl

@[simp] theorem State.countRefusal_rqt (r : RequesterNo) (s : State) :
    (s.countRefusal r).rqt = s.rqt.update r fun q => { q with refusals := countUp q.refusals } := rfl

@[simp] theorem State.create_age (i : EntryNo) (e : Entry) (r : RequesterNo) (s : State) :
    (s.create i e r).dt.age = s.dt.age ++ [i] := rfl

@[simp] theorem State.create_entries (i : EntryNo) (e : Entry) (r : RequesterNo) (s : State) :
    (s.create i e r).dt.entries = s.dt.entries.set i e := rfl

@[simp] theorem State.create_rqt (i : EntryNo) (e : Entry) (r : RequesterNo) (s : State) :
    (s.create i e r).rqt = s.rqt.update r fun q => { q with held := q.held + 1 } := rfl

@[simp] theorem State.create_waiting (i : EntryNo) (e : Entry) (r : RequesterNo) (s : State) :
    (s.create i e r).waiting = s.waiting.filter (fun q => q ≠ r) := rfl

@[simp] theorem State.release_dt (is : List EntryNo) (s : State) :
    (s.release is).dt = s.dt.clear is := rfl

@[simp] theorem State.release_rqt (is : List EntryNo) (s : State) :
    (s.release is).rqt = s.rqt.lowerHeld s.dt.entries is := rfl

@[simp] theorem State.offer_age (is : List EntryNo) (s : State) : (s.offer is).dt.age = s.dt.age := rfl

@[simp] theorem State.offer_waiting (is : List EntryNo) (s : State) :
    (s.offer is).waiting =
      (offerAll s.mnt.settings.reservationTime.toNat is (s.waiting, s.dt.entries)).1 := rfl

@[simp] theorem State.offer_entries (is : List EntryNo) (s : State) :
    (s.offer is).dt.entries =
      (offerAll s.mnt.settings.reservationTime.toNat is (s.waiting, s.dt.entries)).2 := rfl

@[simp] theorem State.withdraw_flt (p : Entry → Bool) (s : State) :
    (s.withdraw p).flt = s.flt.appendAll (s.withdrawalRecords p) := rfl

@[simp] theorem State.withdraw_age (p : Entry → Bool) (s : State) :
    (s.withdraw p).dt.age = s.dt.age.filter (fun i => i ∉ s.withdrawalFreed p) := rfl

@[simp] theorem State.freshen_age (l : DownLine) (s : State) : (s.freshen l).dt.age = s.dt.age := by
  simp only [State.freshen]

@[simp] theorem State.depart_pwq (r : RequesterNo) (failed : Bool) (s : State) :
    (s.depart r failed).pwq = s.pwq.tail := rfl

@[simp] theorem State.depart_age (r : RequesterNo) (failed : Bool) (s : State) :
    (s.depart r failed).dt.age = s.dt.age := by simp only [State.depart]

@[simp] theorem State.accessError_flag (s : State) : s.accessError.mnt.accessError = true := rfl

/-! ## The parts of a state -/

@[simp] theorem FaultUnit.settle_log (f : FaultUnit) : f.settle.log = f.log := rfl

@[simp] theorem FaultUnit.settle_overflow (f : FaultUnit) : f.settle.overflow = f.overflow := rfl

@[simp] theorem FaultUnit.settle_alertEnable (f : FaultUnit) : f.settle.alertEnable = f.alertEnable := rfl

@[simp] theorem FaultUnit.settle_alert (f : FaultUnit) : f.settle.alert = f.level := rfl

@[simp] theorem FaultUnit.settle_level (f : FaultUnit) : f.settle.level = f.level := rfl

@[simp] theorem FaultUnit.settle_settle (f : FaultUnit) : f.settle.settle = f.settle := rfl

@[simp] theorem RequesterTable.update_staging (r : RequesterNo) (f : Requester → Requester)
    (t : RequesterTable) : (t.update r f).staging = t.staging := rfl

@[simp] theorem RequesterTable.lowerHeld_staging (es : Vector Entry 24) (is : List EntryNo)
    (t : RequesterTable) : (t.lowerHeld es is).staging = t.staging := by
  simp only [RequesterTable.lowerHeld]

@[simp] theorem DeferralTable.put_age (i : EntryNo) (e : Entry) (d : DeferralTable) :
    (d.put i e).age = d.age := rfl

@[simp] theorem DeferralTable.put_entries (i : EntryNo) (e : Entry) (d : DeferralTable) :
    (d.put i e).entries = d.entries.set i e := rfl

@[simp] theorem DeferralTable.clear_age (is : List EntryNo) (d : DeferralTable) :
    (d.clear is).age = d.age.filter (fun i => i ∉ is) := rfl

@[simp] theorem MemoryLink.setTag_state (t : TagNo) (x : Tag) (m : MemoryLink) :
    (m.setTag t x).state = m.state := rfl

@[simp] theorem MemoryLink.setTag_linkReset (t : TagNo) (x : Tag) (m : MemoryLink) :
    (m.setTag t x).linkReset = m.linkReset := rfl

@[simp] theorem MemoryLink.setTag_credits (t : TagNo) (x : Tag) (m : MemoryLink) :
    (m.setTag t x).credits = m.credits := rfl

@[simp] theorem MemoryLink.setTag_flights (t : TagNo) (x : Tag) (m : MemoryLink) :
    (m.setTag t x).flights = m.flights := rfl

@[simp] theorem MemoryLink.setTag_tags (t : TagNo) (x : Tag) (m : MemoryLink) :
    (m.setTag t x).tags = m.tags.set t x := rfl

@[simp] theorem MemoryLink.leaveUp_state (m : MemoryLink) : m.leaveUp.state = .resetting := rfl

@[simp] theorem MemoryLink.leaveUp_linkReset (m : MemoryLink) : m.leaveUp.linkReset = true := rfl

@[simp] theorem MemoryLink.leaveUp_credits (m : MemoryLink) : m.leaveUp.credits = 0 := rfl

@[simp] theorem MemoryLink.leaveUp_tags (m : MemoryLink) : m.leaveUp.tags = m.tags := rfl

@[simp] theorem MemoryLink.leaveUp_flights (m : MemoryLink) : m.leaveUp.flights = m.flights := rfl

@[simp] theorem Entry.enterHeld_state (result : Status) (time : Nat) (e : Entry) :
    (e.enterHeld result time).state = .held := rfl

@[simp] theorem Entry.enterHeld_key (result : Status) (time : Nat) (e : Entry) :
    (e.enterHeld result time).key = e.key := rfl

@[simp] theorem Entry.enterHeld_requester (result : Status) (time : Nat) (e : Entry) :
    (e.enterHeld result time).requester = e.requester := rfl

@[simp] theorem Entry.unreserved_state (e : Entry) : e.unreserved.state = e.state := rfl

@[simp] theorem Entry.unreserved_reservedFor (e : Entry) : e.unreserved.reservedFor = none := rfl

end Sys2Proof.Machine
end

