-- ==== Sys2Proof/Laws/Ops.lean ====
section
/-! SUPPORT. What each shared operation can do, said once: tables, searches by lowest number, the Fault Log,
freeing and offering entries, withdrawal, freshness, departures, the admission of a new entry, and taking a
command at the Maintenance Port. -/

namespace Sys2Proof.Machine

/-! ## Tables -/

@[simp] theorem mapTable_getElem {α : Type} {n : Nat} (f : Fin n → α → α) (v : Vector α n) (k : Nat)
    (h : k < n) : (mapTable f v)[k] = f ⟨k, h⟩ v[k] := by
  simp [mapTable]

theorem mapTable_get {α : Type} {n : Nat} (f : Fin n → α → α) (v : Vector α n) (i : Fin n) :
    (mapTable f v)[i] = f i v[i] := by
  simp

theorem set_get {α : Type} {n : Nat} (v : Vector α n) (i j : Fin n) (x : α) :
    (v.set i x)[j] = if j = i then x else v[j] := by
  simp only [Fin.getElem_fin, Vector.getElem_set, Fin.ext_iff, eq_comm]

theorem vector_ext_fin {α : Type} {n : Nat} {v w : Vector α n} (h : ∀ i : Fin n, v[i] = w[i]) : v = w :=
  Vector.ext fun i hi => h ⟨i, hi⟩

theorem mem_entriesWhere {p : Entry → Bool} {es : Vector Entry 24} {i : EntryNo} :
    i ∈ entriesWhere p es ↔ p es[i] = true := by
  simp [entriesWhere]

theorem entriesWhere_nodup (p : Entry → Bool) (es : Vector Entry 24) : (entriesWhere p es).Nodup :=
  (List.nodup_finRange 24).filter _

/-! ## Searches by lowest number -/

theorem find?_finRange_eq_some {n : Nat} {p : Fin n → Bool} {i : Fin n} :
    (List.finRange n).find? p = some i ↔ p i = true ∧ ∀ j, j < i → p j = false := by
  rw [List.find?_eq_some_iff_getElem]
  constructor
  · rintro ⟨hp, k, hk, hik, hj⟩
    refine ⟨hp, fun j hji => ?_⟩
    have hk' : k = i.val := by simpa [Fin.ext_iff] using hik
    have := hj j.val (by omega)
    simpa using this
  · rintro ⟨hp, hj⟩
    exact ⟨hp, i.val, by simp, by simp, fun k hk => by
      simpa using hj ⟨k, by omega⟩ (by simpa [Fin.lt_def] using hk)⟩

theorem find?_finRange_eq_none {n : Nat} {p : Fin n → Bool} :
    (List.finRange n).find? p = none ↔ ∀ j, p j = false := by
  simp

theorem MemoryLink.lowestFreeTag_eq_some {m : MemoryLink} {t : TagNo} :
    m.lowestFreeTag = some t ↔ m.tags[t] = .free ∧ ∀ u : TagNo, u < t → m.tags[u] ≠ .free := by
  simp [MemoryLink.lowestFreeTag, find?_finRange_eq_some]

theorem DeferralTable.reservedEntry_eq_some {r : RequesterNo} {d : DeferralTable} {i : EntryNo} :
    d.reservedEntry r = some i ↔
      (d.entries[i].state = .free ∧ d.entries[i].reservedFor = some r) ∧
        ∀ j : EntryNo, j < i → ¬ (d.entries[j].state = .free ∧ d.entries[j].reservedFor = some r) := by
  simp only [DeferralTable.reservedEntry, find?_finRange_eq_some, Bool.and_eq_true, beq_iff_eq,
    Bool.eq_false_iff, ne_eq]

theorem DeferralTable.unreservedEntry_eq_some {d : DeferralTable} {i : EntryNo} :
    d.unreservedEntry = some i ↔
      (d.entries[i].state = .free ∧ d.entries[i].reservedFor = none) ∧
        ∀ j : EntryNo, j < i → ¬ (d.entries[j].state = .free ∧ d.entries[j].reservedFor = none) := by
  simp only [DeferralTable.unreservedEntry, find?_finRange_eq_some, Bool.and_eq_true, beq_iff_eq,
    Bool.eq_false_iff, ne_eq]

/-- The entry a creation takes is FREE, and carries no reservation of another requester. -/
theorem DeferralTable.available_free {r : RequesterNo} {d : DeferralTable} {i : EntryNo}
    (h : d.available r = some i) :
    d.entries[i].state = .free ∧
      (d.entries[i].reservedFor = some r ∨ d.entries[i].reservedFor = none) := by
  unfold DeferralTable.available at h
  split at h
  · cases h
    exact ⟨(reservedEntry_eq_some.1 ‹_›).1.1, .inl (reservedEntry_eq_some.1 ‹_›).1.2⟩
  · exact ⟨(unreservedEntry_eq_some.1 h).1.1, .inr (unreservedEntry_eq_some.1 h).1.2⟩

/-- A requester finds no entry available when no FREE entry is reserved for it or unreserved. -/
theorem DeferralTable.available_none {r : RequesterNo} {d : DeferralTable} :
    d.available r = none ↔
      ∀ i : EntryNo, d.entries[i].state = .free →
        d.entries[i].reservedFor ≠ some r ∧ d.entries[i].reservedFor ≠ none := by
  unfold DeferralTable.available
  split
  · rename_i i h
    simp only [reduceCtorEq, false_iff, not_forall]
    exact ⟨i, (reservedEntry_eq_some.1 h).1.1, fun c => c.1 (reservedEntry_eq_some.1 h).1.2⟩
  · rename_i h
    simp only [DeferralTable.reservedEntry, DeferralTable.unreservedEntry, find?_finRange_eq_none,
      Bool.and_eq_false_imp, beq_iff_eq, beq_eq_false_iff_ne] at *
    exact ⟨fun h' i hi => ⟨h i hi, h' i hi⟩, fun h' i hi => (h' i hi).2⟩

/-- An entry that matches a key is WAITING, ISSUED or HELD and bears it. -/
theorem DeferralTable.matching_some {k : MatchKey} {d : DeferralTable} {i : EntryNo}
    (h : d.matching k = some i) : d.entries[i].live = true ∧ d.entries[i].key = some k := by
  simpa using (find?_finRange_eq_some.1 h).1

theorem DeferralTable.matching_none {k : MatchKey} {d : DeferralTable} :
    d.matching k = none ↔ ∀ i : EntryNo, d.entries[i].live = true → d.entries[i].key ≠ some k := by
  simp [DeferralTable.matching]

theorem Window.contains_iff {w : Window} {a : UpAddr} :
    w.contains a = true ↔
      w.enabled = true ∧ w.upBase.toNat ≤ a.toNat ∧ a.toNat < w.upBase.toNat + 2 ^ w.k.toNat := by
  simp [Window.contains, and_assoc]

theorem WindowTable.claim_eq_some {wt : WindowTable} {a : UpAddr} {n : WindowNo} :
    wt.claim a = some n ↔
      wt.windows[n].contains a = true ∧ ∀ m : WindowNo, m < n → wt.windows[m].contains a = false := by
  simp [WindowTable.claim, find?_finRange_eq_some]

theorem WindowTable.claim_eq_none {wt : WindowTable} {a : UpAddr} :
    wt.claim a = none ↔ ∀ n : WindowNo, wt.windows[n].contains a = false := by
  simp [WindowTable.claim]

/-! ## The Fault Log -/

@[simp] theorem FaultUnit.appendAll_nil (f : FaultUnit) : f.appendAll [] = f := rfl

@[simp] theorem FaultUnit.appendAll_cons (r : FaultRecord) (rs : List FaultRecord) (f : FaultUnit) :
    f.appendAll (r :: rs) = (f.append r).appendAll rs := rfl

theorem FaultUnit.appendAll_append (rs rs' : List FaultRecord) (f : FaultUnit) :
    f.appendAll (rs ++ rs') = (f.appendAll rs).appendAll rs' := by
  simp [FaultUnit.appendAll]

@[simp] theorem FaultUnit.append_alertEnable (r : FaultRecord) (f : FaultUnit) :
    (f.append r).alertEnable = f.alertEnable := by
  unfold FaultUnit.append
  split <;> rfl

@[simp] theorem FaultUnit.append_settle (r : FaultRecord) (f : FaultUnit) :
    (f.append r).settle = f.append r := by
  unfold FaultUnit.append
  split <;> rfl

theorem FaultUnit.append_length_le (r : FaultRecord) (f : FaultUnit) (h : f.log.length ≤ 16) :
    (f.append r).log.length ≤ 16 := by
  unfold FaultUnit.append
  split
  · simp; omega
  · simpa using h

theorem FaultUnit.append_level (r : FaultRecord) (f : FaultUnit) :
    (f.append r).alert = (f.append r).level := by
  unfold FaultUnit.append
  split <;> rfl

/-- A property of the Fault Unit that one append keeps, the records of an event keep. -/
theorem FaultUnit.appendAll_induct {P : FaultUnit → Prop} (h : ∀ f r, P f → P (f.append r))
    (rs : List FaultRecord) (f : FaultUnit) (hf : P f) : P (f.appendAll rs) := by
  induction rs generalizing f with
  | nil => exact hf
  | cons r rs ih => exact ih (f.append r) (h f r hf)

@[simp] theorem State.log_nil (s : State) : s.log [] = s := rfl

/-! ## Requester records -/

@[simp] theorem RequesterTable.update_get (r q : RequesterNo) (f : Requester → Requester)
    (t : RequesterTable) :
    (t.update r f).requesters[q] = if q = r then f t.requesters[q] else t.requesters[q] := by
  simp only [RequesterTable.update, set_get]
  split
  · rename_i h; rw [h]
  · rfl

@[simp] theorem RequesterTable.lowerHeld_get (es : Vector Entry 24) (is : List EntryNo)
    (t : RequesterTable) (r : RequesterNo) :
    (t.lowerHeld es is).requesters[r] =
      { t.requesters[r] with
        held := t.requesters[r].held -
          is.countP (fun i => es[i].live && es[i].requester == some r) } := by
  simp only [RequesterTable.lowerHeld, mapTable_get]

/-! ## Freeing and offering -/

@[simp] theorem DeferralTable.clear_get (is : List EntryNo) (d : DeferralTable) (i : EntryNo) :
    (d.clear is).entries[i] = if i ∈ is then Entry.free else d.entries[i] := by
  simp only [DeferralTable.clear, mapTable_get]

@[simp] theorem offerAll_nil (time : Nat) (p : List RequesterNo × Vector Entry 24) :
    offerAll time [] p = p := rfl

@[simp] theorem offerAll_cons (time : Nat) (i : EntryNo) (is : List EntryNo)
    (p : List RequesterNo × Vector Entry 24) :
    offerAll time (i :: is) p = offerAll time is (offerEntry time p i) := rfl

@[simp] theorem offerEntry_empty (time : Nat) (es : Vector Entry 24) (i : EntryNo) :
    offerEntry time ([], es) i = ([], es) := rfl

@[simp] theorem offerEntry_head (time : Nat) (r : RequesterNo) (rest : List RequesterNo)
    (es : Vector Entry 24) (i : EntryNo) :
    offerEntry time (r :: rest, es) i =
      (rest, es.set i { es[i] with reservedFor := some r, reservationTimer := some time }) := rfl

@[simp] theorem offerAll_empty (time : Nat) (is : List EntryNo) (es : Vector Entry 24) :
    offerAll time is ([], es) = ([], es) := by
  induction is with
  | nil => rfl
  | cons i is ih => simpa using ih

theorem offerAll_single_waiting (time : Nat) (i : EntryNo) (w : List RequesterNo) (es : Vector Entry 24) :
    (offerAll time [i] (w, es)).1 = w.tail := by
  cases w <;> rfl

/-- One unreserved entry offered: reserved for the head of the Waiting List, if there is one. -/
theorem offerAll_single_get (time : Nat) (i j : EntryNo) (w : List RequesterNo) (es : Vector Entry 24)
    (h : es[i].unreserved = es[i]) :
    (offerAll time [i] (w, es)).2[j] =
      if j = i then
        { es[i] with reservedFor := w.head?, reservationTimer := w.head?.map fun _ => time }
      else es[j] := by
  cases w with
  | nil =>
    simp only [offerAll_empty, List.head?_nil, Option.map_none]
    split
    · rename_i hj; rw [hj]; exact h.symm
    · rfl
  | cons r rest => simp only [offerAll_cons, offerEntry_head, offerAll_nil, set_get, List.head?_cons,
      Option.map_some]

/-- An offer changes no field of an entry but the reservation. -/
theorem offerAll_content (time : Nat) (is : List EntryNo) (p : List RequesterNo × Vector Entry 24)
    (j : EntryNo) : ((offerAll time is p).2[j]).unreserved = (p.2[j]).unreserved := by
  induction is generalizing p with
  | nil => rfl
  | cons i is ih =>
    obtain ⟨w, es⟩ := p
    rw [offerAll_cons, ih]
    cases w with
    | nil => rfl
    | cons r rest =>
      simp only [offerEntry_head, set_get]
      split
      · rename_i h; subst h; rfl
      · rfl

/-- An offer leaves the state of every entry. -/
theorem offerAll_state (time : Nat) (is : List EntryNo) (p : List RequesterNo × Vector Entry 24)
    (j : EntryNo) : ((offerAll time is p).2[j]).state = (p.2[j]).state :=
  (Entry.unreserved_state _).symm.trans
    ((congrArg Entry.state (offerAll_content time is p j)).trans (Entry.unreserved_state _))

theorem State.allFree_iff {s : State} : s.allFree = true ↔ ∀ i : EntryNo, s.dt.entries[i].state = .free := by
  simp [State.allFree]

/-- The change to QUIESCED is made or nothing changes. -/
theorem State.settleQuiesce_cases (s : State) :
    (s.mnt.opState = .quiescing ∧ s.allFree = true ∧ s.pwq = [] ∧
        s.settleQuiesce = { s with mnt := { s.mnt with opState := .quiesced } }) ∨
      (¬ (s.mnt.opState = .quiescing ∧ s.allFree = true ∧ s.pwq = []) ∧ s.settleQuiesce = s) := by
  unfold State.settleQuiesce
  split
  · rename_i h; exact .inl ⟨h.1, h.2.1, h.2.2, rfl⟩
  · rename_i h; exact .inr ⟨h, rfl⟩

/-- The change to QUIESCED touches the operating state alone. -/
theorem State.settleQuiesce_eq (s : State) :
    s.settleQuiesce = { s with mnt := { s.mnt with opState := s.settleQuiesce.mnt.opState } } := by
  rcases s.settleQuiesce_cases with ⟨-, -, -, h⟩ | ⟨-, h⟩ <;> rw [h]

@[simp] theorem State.settleQuiesce_dt (s : State) : s.settleQuiesce.dt = s.dt := by
  rw [s.settleQuiesce_eq]

@[simp] theorem State.settleQuiesce_rqt (s : State) : s.settleQuiesce.rqt = s.rqt := by
  rw [s.settleQuiesce_eq]

@[simp] theorem State.settleQuiesce_waiting (s : State) : s.settleQuiesce.waiting = s.waiting := by
  rw [s.settleQuiesce_eq]

@[simp] theorem State.settleQuiesce_pwq (s : State) : s.settleQuiesce.pwq = s.pwq := by
  rw [s.settleQuiesce_eq]

@[simp] theorem State.settleQuiesce_mli (s : State) : s.settleQuiesce.mli = s.mli := by
  rw [s.settleQuiesce_eq]

@[simp] theorem State.settleQuiesce_flt (s : State) : s.settleQuiesce.flt = s.flt := by
  rw [s.settleQuiesce_eq]

@[simp] theorem State.settleQuiesce_wt (s : State) : s.settleQuiesce.wt = s.wt := by
  rw [s.settleQuiesce_eq]

@[simp] theorem State.settleQuiesce_out (s : State) : s.settleQuiesce.out = s.out := by
  rw [s.settleQuiesce_eq]

@[simp] theorem State.settleQuiesce_streak (s : State) : s.settleQuiesce.streak = s.streak := by
  rw [s.settleQuiesce_eq]

@[simp] theorem State.settleQuiesce_ticks (s : State) : s.settleQuiesce.ticks = s.ticks := by
  rw [s.settleQuiesce_eq]

@[simp] theorem State.settleQuiesce_powerOn (s : State) : s.settleQuiesce.powerOn = s.powerOn := by
  rw [s.settleQuiesce_eq]

@[simp] theorem State.settleQuiesce_pending (s : State) : s.settleQuiesce.pending = s.pending := by
  rw [s.settleQuiesce_eq]

/-- Freeing one entry changes the requester records, the Waiting List, the Deferral Table and the operating
state alone. -/
theorem State.freeEntry_eq (i : EntryNo) (s : State) :
    s.freeEntry i =
      { s with
        rqt := s.rqt.lowerHeld s.dt.entries [i]
        waiting := ((s.release [i]).offer [i]).waiting
        dt := ((s.release [i]).offer [i]).dt
        mnt := { s.mnt with opState := (s.freeEntry i).mnt.opState } } := by
  unfold State.freeEntry
  rw [State.settleQuiesce_eq]
  simp only [State.offer, State.release]

/-- The freed entry is FREE, reserved for the head of the Waiting List if there is one; no other entry changes. -/
theorem State.freeEntry_get (i j : EntryNo) (s : State) :
    (s.freeEntry i).dt.entries[j] =
      if j = i then
        { Entry.free with
          reservedFor := s.waiting.head?
          reservationTimer := s.waiting.head?.map fun _ => s.mnt.settings.reservationTime.toNat }
      else s.dt.entries[j] := by
  rw [State.freeEntry_eq]
  simp only [State.offer, State.release, DeferralTable.clear]
  rw [offerAll_single_get]
  · by_cases h : j = i
    · subst h
      simp only [mapTable_get, if_true, List.mem_singleton]
    · simp only [mapTable_get, h, if_false, List.mem_singleton]
  · simp only [mapTable_get, List.mem_singleton, if_true]
    rfl

/-! ## Withdrawal, freshness, departures -/

theorem State.withdraw_get (p : Entry → Bool) (s : State) (i : EntryNo) :
    (s.withdraw p).dt.entries[i] =
      if p s.dt.entries[i] then s.dt.entries[i].withdrawn else s.dt.entries[i] := by
  simp only [State.withdraw, mapTable_get]

/-- A withdrawn entry is counted by no held count. -/
theorem Entry.withdrawn_not_live (e : Entry) : e.withdrawn.live = false := by
  rcases e with ⟨state⟩
  cases state <;> rfl

theorem State.freshen_get (l : DownLine) (s : State) (i : EntryNo) :
    (s.freshen l).dt.entries[i] = s.dt.entries[i].freshened l := by
  simp only [State.freshen, mapTable_get]

/-- The freshness rules change an entry in these ways alone. -/
theorem Entry.freshened_cases (l : DownLine) (e : Entry) :
    e.freshened l = e ∨
      (e.kind = some .read ∧ e.state = .held ∧ e.result = some .ok ∧
        (e.freshened l = e.refetched ∧ e.refetch < 3 ∨ e.freshened l = { e with limit := true })) ∨
      (e.kind = some .read ∧ e.state = .issued ∧ e.freshened l = { e with stale := true }) := by
  unfold Entry.freshened
  split
  · rename_i h
    have hk : e.kind = some .read := by
      simp only [Entry.fresheningReaches, Bool.and_eq_true, beq_iff_eq] at h
      exact h.1.1
    cases he : e.state with
    | held =>
      simp only
      split
      · rename_i hr
        split
        · rename_i hf; exact .inr (.inl ⟨hk, trivial, hr, .inl ⟨rfl, hf⟩⟩)
        · exact .inr (.inl ⟨hk, trivial, hr, .inr rfl⟩)
      · exact .inl rfl
    | issued => exact .inr (.inr ⟨hk, rfl, rfl⟩)
    | waiting => exact .inl rfl
    | orphaned => exact .inl rfl
    | free => exact .inl rfl
  · exact .inl rfl

@[simp] theorem Entry.freshened_key (l : DownLine) (e : Entry) : (e.freshened l).key = e.key := by
  rcases e.freshened_cases l with h | ⟨-, -, -, ⟨h, -⟩ | h⟩ | ⟨-, -, h⟩ <;> (rw [h]; try rfl)

@[simp] theorem Entry.freshened_requester (l : DownLine) (e : Entry) :
    (e.freshened l).requester = e.requester := by
  rcases e.freshened_cases l with h | ⟨-, -, -, ⟨h, -⟩ | h⟩ | ⟨-, -, h⟩ <;> (rw [h]; try rfl)

@[simp] theorem Entry.freshened_live (l : DownLine) (e : Entry) : (e.freshened l).live = e.live := by
  rcases e.freshened_cases l with h | ⟨-, hs, -, ⟨h, -⟩ | h⟩ | ⟨-, hs, h⟩ <;> rw [h] <;>
    simp [Entry.live, Entry.refetched, hs]

@[simp] theorem Entry.freshened_free (l : DownLine) (e : Entry) :
    ((e.freshened l).state = .free) = (e.state = .free) := by
  rcases e.freshened_cases l with h | ⟨-, hs, -, ⟨h, -⟩ | h⟩ | ⟨-, hs, h⟩ <;> rw [h] <;>
    simp [Entry.refetched, hs]

theorem State.depart_get (r : RequesterNo) (failed : Bool) (s : State) (i : EntryNo) :
    (s.depart r failed).dt.entries[i] =
      s.dt.entries[i].accounted r failed s.mnt.settings.discardTime.toNat := by
  simp only [State.depart, mapTable_get]

/-- A departure leaves an entry, or counts down a WAITING SYNC, or makes it HELD. -/
theorem Entry.accounted_cases (r : RequesterNo) (failed : Bool) (time : Nat) (e : Entry) :
    e.accounted r failed time = e ∨
      (e.state = .waiting ∧ e.kind = some .sync ∧
        ∃ n marked, e.pending = some (n + 1) ∧
          (0 < n ∧ e.accounted r failed time = { e with failure := marked, pending := some n } ∨
            n = 0 ∧ ∃ result,
              e.accounted r failed time =
                { e with failure := marked, pending := some 0 }.enterHeld result time)) := by
  unfold Entry.accounted
  split
  · rename_i h
    cases hp : e.pending with
    | none => exact .inl rfl
    | some m =>
      cases m with
      | zero => exact .inl rfl
      | succ n =>
        refine .inr ⟨h.1, h.2, n, e.failure || (failed && e.requester == some r), rfl, ?_⟩
        simp only
        split
        · rename_i hn; subst hn; exact .inr ⟨rfl, _, rfl⟩
        · exact .inl ⟨by omega, rfl⟩
  · exact .inl rfl

/-! ## The arbiter -/

theorem issueOldest_split {pre post : List PostedWrite} {w : PostedWrite} (hw : w.state = .queued)
    (hpre : ∀ x ∈ pre, x.state = .issued) :
    issueOldest (pre ++ w :: post) = pre ++ { w with state := .issued } :: post := by
  induction pre with
  | nil => simp [issueOldest, hw]
  | cons x pre ih =>
    have hx : x.state = .issued := hpre x (by simp)
    simp only [List.cons_append, issueOldest, hx, reduceCtorEq, if_false]
    rw [ih fun y hy => hpre y (by simp [hy])]

theorem oldestQueued_split {pre post : List PostedWrite} {w : PostedWrite} (hw : w.state = .queued)
    (hpre : ∀ x ∈ pre, x.state = .issued) : oldestQueued (pre ++ w :: post) = some w := by
  induction pre with
  | nil => simp [oldestQueued, hw]
  | cons x pre ih =>
    have hx : x.state = .issued := hpre x (by simp)
    have := ih fun y hy => hpre y (by simp [hy])
    simpa [oldestQueued, hx] using this

/-- A granted entry was eligible, and so stood WAITING in the age order with no hazard. -/
theorem State.grantDecision_entry {s : State} {i : EntryNo} (h : s.grantDecision = .entry i) :
    s.mli.state = .up ∧ i ∈ s.dt.age ∧ s.deferralEligible i = true := by
  unfold State.grantDecision at h
  split at h
  · cases h
  · rename_i hup
    have hup : s.mli.state = .up := by simpa using hup
    split at h
    · rename_i j hj
      split at h
      · cases hq : oldestQueued s.pwq <;> simp [hq] at h
      · cases h
        exact ⟨hup, List.mem_of_find?_eq_some hj,
          List.find?_some (p := fun k => s.deferralEligible k) hj⟩
    · split at h
      · cases hq : oldestQueued s.pwq <;> simp [hq] at h
      · cases h

/-! ## The Maintenance Port -/

theorem State.takeCommand_loading (code : Byte) (act : State → CmdOutcome × State) {s : State}
    (h : s.mnt.opState = .loading) : s.takeCommand code act = s.cmdStatus code .state := by
  simp [State.takeCommand, h]

theorem State.takeCommand_taken (code : Byte) (act : State → CmdOutcome × State) {s : State}
    (h : s.mnt.opState ≠ .loading) : s.takeCommand code act = (act s).2.cmdStatus code (act s).1 := by
  simp [State.takeCommand, h]

theorem State.portTakes_iff {device : DeviceAddr} {s : State} :
    s.portTakes device = true ↔ s.powerOn = false ∧ device = s.mnt.deviceAddress := by
  simp [State.portTakes]

theorem numbered_eq_some {n : Nat} {arg : Byte} {i : Fin n} :
    numbered n arg = some i ↔ arg.toNat = i.val := by
  unfold numbered
  split
  · simp [Fin.ext_iff]
  · simp only [reduceCtorEq, false_iff]; omega

theorem numbered_eq_none {n : Nat} {arg : Byte} : numbered n arg = none ↔ n ≤ arg.toNat := by
  unfold numbered
  split <;> simp <;> omega

/-! ## One step -/

theorem step_idle {s : State} (h : s.pending = []) : step s = .next s := by
  simp [step, h]

end Sys2Proof.Machine
end

