-- ==== Sys2Proof/Laws/Image.lean ====
section
/-! SUPPORT. What the loader can do: the records it parses, the record it stops at, and what a list of records
applied leaves of the state. -/

namespace Sys2Proof.Machine

/-! ## Parsing -/

/-- A list of records is parsed whole exactly when each of them is. -/
theorem parseRecords_eq_ok {n : Nat} {l : List (List Byte)} {rs : List ImageRecord} :
    parseRecords n l = .ok rs ↔ l.map parseRecord = rs.map some := by
  induction l generalizing n rs with
  | nil => cases rs <;> simp [parseRecords]
  | cons bs l ih =>
    rw [parseRecords, List.map_cons]
    cases hb : parseRecord bs with
    | none => cases rs <;> simp
    | some r =>
      cases hl : parseRecords (n + 1) l with
      | error m =>
        have := fun rs => (ih (n := n + 1) (rs := rs)).not.1 (by simp [hl])
        cases rs <;> simp [this]
      | ok rs' =>
        have h' := ih.1 hl
        cases rs with
        | nil => simp
        | cons r' rs =>
          simp only [Except.ok.injEq, List.map_cons, List.cons.injEq, Option.some.injEq, h',
            (Option.some_injective _).list_map.eq_iff]

/-- The loader stops at the first record that fails its tests, counted from n. -/
theorem parseRecords_eq_error {n : Nat} {pre post : List (List Byte)} {bs : List Byte}
    (hp : ∀ x ∈ pre, parseRecord x ≠ none) (hb : parseRecord bs = none) :
    parseRecords n (pre ++ bs :: post) = .error (n + pre.length) := by
  induction pre generalizing n with
  | nil => simp [parseRecords, hb]
  | cons x pre ih =>
    obtain ⟨r, hr⟩ := Option.ne_none_iff_exists'.1 (hp x List.mem_cons_self)
    rw [List.cons_append, parseRecords, hr, ih fun y hy => hp y (List.mem_cons_of_mem _ hy)]
    simp only [List.length_cons, Nat.add_assoc, Nat.add_comm 1]

/-! ## Applying -/

theorem State.applyRecord_frame (r : ImageRecord) (s : State) :
    (s.applyRecord r).wt.staging = s.wt.staging ∧ (s.applyRecord r).rqt.staging = s.rqt.staging ∧
      s.applyRecord r =
        { s with
          wt := (s.applyRecord r).wt, rqt := (s.applyRecord r).rqt
          mnt := { s.mnt with settings := (s.applyRecord r).mnt.settings }
          flt := { s.flt with alertEnable := (s.applyRecord r).flt.alertEnable } } := by
  cases r <;> exact ⟨rfl, rfl, rfl⟩

/-- Records in image order change the windows, the requesters, the settings and the alert-enables alone. -/
theorem State.applyRecords_frame (rs : List ImageRecord) (s : State) :
    (rs.foldl State.applyRecord s).wt.staging = s.wt.staging ∧
      (rs.foldl State.applyRecord s).rqt.staging = s.rqt.staging ∧
      rs.foldl State.applyRecord s =
        { s with
          wt := (rs.foldl State.applyRecord s).wt, rqt := (rs.foldl State.applyRecord s).rqt
          mnt := { s.mnt with settings := (rs.foldl State.applyRecord s).mnt.settings }
          flt := { s.flt with alertEnable := (rs.foldl State.applyRecord s).flt.alertEnable } } := by
  induction rs generalizing s with
  | nil => exact ⟨rfl, rfl, rfl⟩
  | cons r rs ih =>
    obtain ⟨h1, h2, h3⟩ := ih (s.applyRecord r)
    obtain ⟨g1, g2, g3⟩ := s.applyRecord_frame r
    refine ⟨h1.trans g1, h2.trans g2, ?_⟩
    rw [List.foldl_cons, h3, g3]

/-- What a field of the state takes from one record, no record of a list that does not name it changes. -/
theorem State.applyRecords_keep {α : Type} (f : State → α) (rs : List ImageRecord) (s : State)
    (h : ∀ r ∈ rs, ∀ s : State, f (s.applyRecord r) = f s) : f (rs.foldl State.applyRecord s) = f s := by
  induction rs generalizing s with
  | nil => rfl
  | cons r rs ih =>
    rw [List.foldl_cons, ih (s.applyRecord r) fun x hx => h x (List.mem_cons_of_mem _ hx)]
    exact h r List.mem_cons_self s

/-- The last record of a list that names a field decides it. -/
theorem State.applyRecords_last {α : Type} (f : State → α) (pre post : List ImageRecord) (r : ImageRecord)
    (s : State) (h : ∀ x ∈ post, ∀ s : State, f (s.applyRecord x) = f s) :
    f ((pre ++ r :: post).foldl State.applyRecord s) =
      f ((pre.foldl State.applyRecord s).applyRecord r) := by
  rw [List.foldl_append, List.foldl_cons, State.applyRecords_keep f post _ h]

end Sys2Proof.Machine
end

