-- ==== Sys2Proof/Laws/PerInstr.lean ====
section
/-! SUPPORT. The family of statements made per command: the opcode table gives no row any bits, so no word
spells a command (assumption 3). -/

namespace Sys2Proof.Laws.Unspelled

/-- No word, of whatever width, spells the command. -/
def Statement (i : Instr) : Prop := ∀ nbits w : Nat, decodeTableWord nbits w ≠ some i

theorem upstreamRequest (q : UpRequest) : Statement (.upstreamRequest q) := nofun

theorem arbiterGrant : Statement (.arbiterGrant) := nofun

theorem readCpl (c : ReadCompletion) : Statement (.readCpl c) := nofun

theorem writeAck (status : LinkStatus) : Statement (.writeAck status) := nofun

theorem credit (n : Fin 32) : Statement (.credit n) := nofun

theorem linkUp : Statement (.linkUp) := nofun

theorem linkDown : Statement (.linkDown) := nofun

theorem completionTimerExpiry (entry : EntryNo) : Statement (.completionTimerExpiry entry) := nofun

theorem ackTimerExpiry : Statement (.ackTimerExpiry) := nofun

theorem discardTimerExpiry (entry : EntryNo) : Statement (.discardTimerExpiry entry) := nofun

theorem reservationTimerExpiry (entry : EntryNo) : Statement (.reservationTimerExpiry entry) := nofun

theorem windowCommit (device : DeviceAddr) (arg : Byte) : Statement (.windowCommit device arg) := nofun

theorem requesterCommit (device : DeviceAddr) (arg : Byte) : Statement (.requesterCommit device arg) := nofun

theorem logPop (device : DeviceAddr) (arg : Byte) : Statement (.logPop device arg) := nofun

theorem logClear (device : DeviceAddr) (arg : Byte) : Statement (.logClear device arg) := nofun

theorem counterClear (device : DeviceAddr) (arg : Byte) : Statement (.counterClear device arg) := nofun

theorem entryView (device : DeviceAddr) (arg : Byte) : Statement (.entryView device arg) := nofun

theorem quiesce (device : DeviceAddr) (arg : Byte) : Statement (.quiesce device arg) := nofun

theorem resume (device : DeviceAddr) (arg : Byte) : Statement (.resume device arg) := nofun

theorem pathReset (device : DeviceAddr) (arg : Byte) : Statement (.pathReset device arg) := nofun

theorem linkReset (device : DeviceAddr) (arg : Byte) : Statement (.linkReset device arg) := nofun

theorem unnamedCommandCode (device : DeviceAddr) (code arg : Byte) :
    Statement (.unnamedCommandCode device code arg) := nofun

theorem alertEnableWrite (device : DeviceAddr) (value : Word) :
    Statement (.alertEnableWrite device value) := nofun

theorem mntStatusRead (device : DeviceAddr) (count : Nat) : Statement (.mntStatusRead device count) := nofun

theorem registerWrite (w : PortWrite) : Statement (.registerWrite w) := nofun

theorem powerOnReset : Statement (.powerOnReset) := nofun

theorem powerOnResetDeassertion (straps : BitVec 2) : Statement (.powerOnResetDeassertion straps) := nofun

theorem endOfLoad (eeprom : Eeprom) : Statement (.endOfLoad eeprom) := nofun

theorem busReset : Statement (.busReset) := nofun

theorem timebaseTick : Statement (.timebaseTick) := nofun

end Sys2Proof.Laws.Unspelled
end

