-- ==== Sys2Proof/Laws/Timers.lean ====
section
/-! SUPPORT. What the expiries and a tick can do: one lemma for each expiry, the induction over the expiries that
one tick takes, and the small lemmas of one count of the Timebase. -/

namespace Sys2Proof.Machine

/-! ## One expiry -/

/-- The expiry of a completion timer changes nothing, or is the read timeout of an entry in ISSUED or ORPHANED that
bears a tag and whose timer stands at its time. -/
theorem State.expireCompletion_cases (i : EntryNo) (s : State) :
    s.expireCompletion i = s ∨
      ∃ t, (s.dt.entries[i].state = .issued ∨ s.dt.entries[i].state = .orphaned) ∧
        s.dt.entries[i].completionTimer = some 0 ∧ s.dt.entries[i].tag = some t ∧
        s.expireCompletion i = s.readTimeout i t := by
  unfold State.expireCompletion
  split
  · next h =>
    simp only [Entry.completionDue, Bool.and_eq_true, Bool.or_eq_true, beq_iff_eq] at h
    split
    · next t ht => exact .inr ⟨t, h.1, h.2, ht, rfl⟩
    · exact .inl rfl
  · exact .inl rfl

/-- The acknowledgement timeout changes nothing, or records the head, whose time is reached, and takes the link from
UP to RESETTING. -/
theorem State.ackTimeout_cases (s : State) :
    s.ackTimeout = s ∨
      ∃ f fs, s.mli.flights = f :: fs ∧ f.ackTimeout ≤ f.elapsed ∧ s.mli.state = .up ∧
        s.ackTimeout = { s.log [s.ackTimeoutRecord f.ref] with mli := s.mli.leaveUp } := by
  unfold State.ackTimeout
  split
  · exact .inl rfl
  · next f fs hf =>
    split
    · next h => exact .inr ⟨f, fs, hf, by simpa [FlightMember.due] using h.1, h.2, rfl⟩
    · exact .inl rfl

/-- The acknowledgement timeout acts on the link and the log alone. -/
theorem State.ackTimeout_eq (s : State) :
    s.ackTimeout = { s with mli := s.ackTimeout.mli, flt := s.ackTimeout.flt } := by
  obtain h | ⟨f, fs, -, -, -, h⟩ := s.ackTimeout_cases <;> rw [h]
  rfl

/-- Behind an acknowledgement timeout no head is due: none stands while the link is UP whose time is reached. -/
theorem State.ackTimeout_settled (s : State) (h : s.ackTimeout.mli.state = .up) :
    s.ackTimeout = s ∧ ∀ f ∈ s.mli.flights.head?, f.elapsed < f.ackTimeout := by
  unfold State.ackTimeout at h ⊢
  split
  · next hf => simp [hf]
  · next f fs hf =>
    simp only [hf] at h
    split at h
    · simp [MemoryLink.leaveUp] at h
    · next c =>
      rw [if_neg c]
      refine ⟨rfl, fun g hg => ?_⟩
      obtain rfl : f = g := by simpa [hf] using hg
      exact Nat.lt_of_not_le fun hle => c ⟨by simpa [FlightMember.due] using hle, h⟩

theorem State.expireDiscard_cases (i : EntryNo) (s : State) :
    s.expireDiscard i = s ∨
      s.dt.entries[i].state = .held ∧ s.dt.entries[i].discardTimer = some 0 ∧
        s.expireDiscard i = s.discard i := by
  unfold State.expireDiscard
  split
  · next h => exact .inr ⟨h.1, h.2, rfl⟩
  · exact .inl rfl

theorem State.expireReservation_cases (i : EntryNo) (s : State) :
    s.expireReservation i = s ∨
      s.dt.entries[i].state = .free ∧ s.dt.entries[i].reservationTimer = some 0 ∧
        s.expireReservation i = s.reservationExpiry i := by
  unfold State.expireReservation
  split
  · next h => exact .inr ⟨h.1, h.2, rfl⟩
  · exact .inl rfl

/-- What the expiry of a timer can do, whichever timer it is. -/
theorem State.expire_cases (t : Timer) (s : State) :
    s.expire t = s ∨
      (∃ i u, t = .completion i ∧ (s.dt.entries[i].state = .issued ∨ s.dt.entries[i].state = .orphaned) ∧
        s.dt.entries[i].completionTimer = some 0 ∧ s.dt.entries[i].tag = some u ∧
        s.expire t = s.readTimeout i u) ∨
      (∃ f fs, t = .acknowledgement ∧ s.mli.flights = f :: fs ∧ f.ackTimeout ≤ f.elapsed ∧
        s.mli.state = .up ∧
        s.expire t = { s.log [s.ackTimeoutRecord f.ref] with mli := s.mli.leaveUp }) ∨
      (∃ i, t = .discard i ∧ s.dt.entries[i].state = .held ∧ s.dt.entries[i].discardTimer = some 0 ∧
        s.expire t = s.discard i) ∨
      ∃ i, t = .reservation i ∧ s.dt.entries[i].state = .free ∧
        s.dt.entries[i].reservationTimer = some 0 ∧ s.expire t = s.reservationExpiry i := by
  cases t with
  | completion i =>
    obtain h | ⟨u, h⟩ := s.expireCompletion_cases i
    · exact .inl h
    · exact .inr (.inl ⟨i, u, rfl, h⟩)
  | acknowledgement =>
    obtain h | ⟨f, fs, h⟩ := s.ackTimeout_cases
    · exact .inl h
    · exact .inr (.inr (.inl ⟨f, fs, rfl, h⟩))
  | discard i =>
    obtain h | h := s.expireDiscard_cases i
    · exact .inl h
    · exact .inr (.inr (.inr (.inl ⟨i, rfl, h⟩)))
  | reservation i =>
    obtain h | h := s.expireReservation_cases i
    · exact .inl h
    · exact .inr (.inr (.inr (.inr ⟨i, rfl, h⟩)))

/-- The quarantine limit acts on the link and the log alone. -/
theorem State.quarantineLimit_eq (u : TagNo) (s : State) :
    s.quarantineLimit u = { s with mli := (s.quarantineLimit u).mli, flt := (s.quarantineLimit u).flt } := by
  unfold State.quarantineLimit
  split <;> rfl

/-- A counted discard acts on the requester records alone. -/
theorem State.countDiscard_eq (r : Option RequesterNo) (s : State) :
    s.countDiscard r = { s with rqt := (s.countDiscard r).rqt } := by
  cases r <;> rfl

/-! ## The expiries of one tick -/

/-- What every single expiry keeps, the expiries that a tick takes keep. -/
theorem State.takeDue_induct {P : State → Prop} (expire : ∀ t s, P s → P (s.expire t)) {s : State}
    (h : P s) : P s.takeDue := by
  unfold State.takeDue
  generalize s.dueTimers = ts
  induction ts generalizing s with
  | nil => exact h
  | cons t ts ih => exact ih (expire t s h)

/-- The expiries that a tick takes, kind by kind. -/
theorem State.takeDue_eq (s : State) :
    s.takeDue =
      (entriesWhere (fun e => e.reservationTimer == some 0) s.dt.entries).foldl
        (fun s i => s.expireReservation i)
        ((entriesWhere (fun e => e.discardTimer == some 0) s.dt.entries).foldl
          (fun s i => s.expireDiscard i)
          ((entriesWhere (fun e => e.completionTimer == some 0) s.dt.entries).foldl
            (fun s i => s.expireCompletion i) s).ackTimeout) := by
  simp only [State.takeDue, State.dueTimers, List.foldl_append, List.foldl_map, List.foldl_cons,
    List.foldl_nil, State.expire]

/-- With no entry's timer at its time, the head's expiry is the only one there can be. -/
theorem State.takeDue_of_entries {s : State}
    (h : ∀ i : EntryNo, s.dt.entries[i].completionTimer ≠ some 0 ∧ s.dt.entries[i].discardTimer ≠ some 0 ∧
      s.dt.entries[i].reservationTimer ≠ some 0) : s.takeDue = s.ackTimeout := by
  have none : ∀ p : Entry → Bool, (∀ i : EntryNo, p s.dt.entries[i] = false) →
      entriesWhere p s.dt.entries = [] := fun p hp => by
    simpa [entriesWhere] using hp
  rw [State.takeDue_eq, none _ fun i => by simpa using (h i).1, none _ fun i => by simpa using (h i).2.1,
    none _ fun i => by simpa using (h i).2.2]
  rfl

/-! ## One count of the Timebase -/

@[simp] theorem State.tick_ticks (s : State) : s.tick.ticks = s.ticks + 1 := by simp only [State.tick]

@[simp] theorem State.tick_age (s : State) : s.tick.dt.age = s.dt.age := by simp only [State.tick]

theorem State.tick_get (s : State) (i : EntryNo) : s.tick.dt.entries[i] = s.dt.entries[i].tick := by
  simp only [State.tick, mapTable_get]

@[simp] theorem State.tick_flights (s : State) :
    s.tick.mli.flights = s.mli.flights.map FlightMember.tick := by simp only [State.tick]

@[simp] theorem State.tick_linkState (s : State) : s.tick.mli.state = s.mli.state := by simp only [State.tick]

@[simp] theorem State.tick_tags (s : State) : s.tick.mli.tags = s.mli.tags := by simp only [State.tick]

@[simp] theorem State.tick_credits (s : State) : s.tick.mli.credits = s.mli.credits := by simp only [State.tick]

@[simp] theorem State.tick_linkReset (s : State) : s.tick.mli.linkReset = s.mli.linkReset := by simp only [State.tick]

@[simp] theorem State.tick_wt (s : State) : s.tick.wt = s.wt := by simp only [State.tick]

@[simp] theorem State.tick_rqt (s : State) : s.tick.rqt = s.rqt := by simp only [State.tick]

@[simp] theorem State.tick_waiting (s : State) : s.tick.waiting = s.waiting := by simp only [State.tick]

@[simp] theorem State.tick_pwq (s : State) : s.tick.pwq = s.pwq := by simp only [State.tick]

@[simp] theorem State.tick_streak (s : State) : s.tick.streak = s.streak := by simp only [State.tick]

@[simp] theorem State.tick_flt (s : State) : s.tick.flt = s.flt := by simp only [State.tick]

@[simp] theorem State.tick_mnt (s : State) : s.tick.mnt = s.mnt := by simp only [State.tick]

@[simp] theorem State.tick_powerOn (s : State) : s.tick.powerOn = s.powerOn := by simp only [State.tick]

@[simp] theorem State.tick_out (s : State) : s.tick.out = s.out := by simp only [State.tick]

@[simp] theorem State.tick_pending (s : State) : s.tick.pending = s.pending := by simp only [State.tick]

end Sys2Proof.Machine
end

