-- ==== Sys2Proof/Laws/Views.lean ====
section
/-! SUPPORT. What the register words are: a word built of fields in rising positions reads as the sum of its
fields, and the searches that the views make give what they name. -/

namespace Sys2Proof.Machine

/-! ## Words built of fields -/

theorem field_toNat {lo w : Nat} (v : Nat) (h : lo + w ≤ 32) :
    (field lo w v).toNat = 2 ^ lo * (v % 2 ^ w) := by
  have hv : v % 2 ^ w < 2 ^ w := Nat.mod_lt _ (by positivity)
  have hb : v % 2 ^ w * 2 ^ lo < 2 ^ 32 :=
    calc v % 2 ^ w * 2 ^ lo < 2 ^ w * 2 ^ lo := Nat.mul_lt_mul_of_pos_right hv (by positivity)
      _ = 2 ^ (w + lo) := (pow_add ..).symm
      _ ≤ 2 ^ 32 := Nat.pow_le_pow_right (by norm_num) (by omega)
  rw [field, BitVec.toNat_ofNat, Nat.shiftLeft_eq, Nat.mod_eq_of_lt hb, mul_comm]

theorem flag_toNat {lo : Nat} (b : Bool) (h : lo < 32) : (flag lo b).toNat = b.toNat * 2 ^ lo := by
  rw [flag, field_toNat _ h]
  cases b <;> simp

/-- A word whose bits from b upward are 0, and its value. -/
def Below (b n : Nat) (x : Word) : Prop := x.toNat = n ∧ n < 2 ^ b

theorem below_field {w : Nat} (v : Nat) (h : w ≤ 32) : Below w (v % 2 ^ w) (field 0 w v) :=
  ⟨by simpa using field_toNat (lo := 0) v (by omega), Nat.mod_lt _ (by positivity)⟩

theorem below_flag (b : Bool) : Below 1 b.toNat (flag 0 b) :=
  ⟨by simpa using flag_toNat (lo := 0) b (by norm_num), Bool.toNat_lt b⟩

/-- A field above the bits of a word adds to its value. -/
theorem Below.or_field {x : Word} {b n : Nat} (lo w v : Nat) (hx : Below b n x) (hb : b ≤ lo)
    (h : lo + w ≤ 32) : Below (lo + w) (n + 2 ^ lo * (v % 2 ^ w)) (x ||| field lo w v) := by
  have hn : n < 2 ^ lo := hx.2.trans_le (Nat.pow_le_pow_right (by norm_num) hb)
  have hv : v % 2 ^ w + 1 ≤ 2 ^ w := Nat.mod_lt _ (by positivity)
  refine ⟨?_, ?_⟩
  · rw [BitVec.toNat_or, field_toNat v h, hx.1, Nat.or_comm, ← Nat.two_pow_add_eq_or_of_lt hn, add_comm]
  · calc n + 2 ^ lo * (v % 2 ^ w) < 2 ^ lo + 2 ^ lo * (v % 2 ^ w) := by omega
      _ = 2 ^ lo * (v % 2 ^ w + 1) := by ring
      _ ≤ 2 ^ lo * 2 ^ w := Nat.mul_le_mul_left _ hv
      _ = 2 ^ (lo + w) := (pow_add ..).symm

/-- A flag above the bits of a word adds to its value. -/
theorem Below.or_flag {x : Word} {b n : Nat} (lo : Nat) (on : Bool) (hx : Below b n x) (hb : b ≤ lo)
    (h : lo < 32) : Below (lo + 1) (n + on.toNat * 2 ^ lo) (x ||| flag lo on) := by
  have e := hx.or_field lo 1 on.toNat hb h
  rwa [show 2 ^ lo * (on.toNat % 2 ^ 1) = on.toNat * 2 ^ lo by cases on <;> simp] at e

/-! ## Searches -/

theorem waitingPosition_of_notMem {r : RequesterNo} {l : List RequesterNo} (h : r ∉ l) :
    waitingPosition r l = 0 := if_neg h

theorem waitingPosition_append {r : RequesterNo} {pre : List RequesterNo} (post : List RequesterNo)
    (h : r ∉ pre) : waitingPosition r (pre ++ r :: post) = pre.length + 1 := by
  rw [waitingPosition, if_pos (by simp), List.idxOf_append_of_notMem h, List.idxOf_cons_self]

theorem bitsNat_testBit (l : List Bool) (b : Nat) : (bitsNat l).testBit b = l.getD b false := by
  induction l generalizing b with
  | nil => simp [bitsNat]
  | cons x l ih =>
    cases b with
    | zero => cases x <;> simp [bitsNat, Nat.testBit_zero, Nat.add_mod]
    | succ b =>
      rw [Nat.testBit_add_one]
      have : bitsNat (x :: l) / 2 = bitsNat l := by
        have := Bool.toNat_lt x
        rw [bitsNat]
        omega
      simpa [this] using ih b

end Sys2Proof.Machine
end

