-- ==== Sys2Proof/Tests/Slice0.lean ====
section
/-! SUPPORT. Tests of one step each against the worked examples of the manual, the refusals of `Instr.wf`, and
for each obligation with hypotheses a witness that they can all be met. -/

namespace Sys2Proof.Tests

open Sys2Proof Sys2Proof.Machine Sys2Proof.Claims

/- One test after another: each waits for the kernel, and dozens that wait at once hold a thread each. -/
set_option Elab.async false

/-! ## Well-formedness: one ill-formed term for each check -/

/-- A request with the check codes the part computes. -/
def request (r : RequesterNo) (c : UpCommand) (a : UpAddr) (n : Nat) (d : List Byte) : UpRequest :=
  { requester := r, command := c, address := a, length := n, data := d
    requestCheck := Config.requestCheckCode r c a n, dataCheck := Config.dataCheckCode d }

theorem test_wf_write_length : (Instr.upstreamRequest (request 5 .write 0 4 [1, 2])).wf = false := by decide

theorem test_wf_read_without_data : (Instr.upstreamRequest (request 5 .read 0 4 [1])).wf = false := by decide

theorem test_wf_sync_without_data : (Instr.upstreamRequest (request 5 .sync 0 4 [1])).wf = false := by decide

theorem test_wf_error_completion_without_data :
    (Instr.readCpl { tag := 0, status := .poison, data := [1], dataCheck := 0 }).wf = false := by decide

theorem test_wf_unnamed_code : (Instr.unnamedCommandCode 0x58 0x0A 0).wf = false := by decide

theorem test_wf_unnamed_code_above : (Instr.unnamedCommandCode 0x58 0x0B 0).wf = true := by decide

theorem test_wf_status_read : (Instr.mntStatusRead 0x58 0).wf = false := by decide

theorem test_wf_register_write_of_cmd :
    (Instr.registerWrite { device := 0x58, address := 0x0008, data := [0, 0, 0, 1] }).wf = false := by decide

theorem test_wf_register_write_of_alert_enable :
    (Instr.registerWrite { device := 0x58, address := 0x0024, data := [0, 0, 0, 1] }).wf = false := by decide

/-! ## The part of the examples -/

/-- The three windows of section 1.5. -/
def window0 : Window :=
  { enabled := true, upBase := 0x0040000000, k := 12, target := 0x00800000000, mask := 0xF,
    writeMode := .nonposted, fetchMode := .exact, holdMode := .coherent }

def window1 : Window :=
  { enabled := true, upBase := 0x0040000000, k := 30, target := 0x001C0000000, mask := 0xFF,
    writeMode := .posted, fetchMode := .exact, holdMode := .coherent }

def window2 : Window :=
  { enabled := true, upBase := 0x8000000000, k := 20, target := 0xA0000000000, mask := 0xFFFFFFFF,
    writeMode := .readOnly, fetchMode := .line, holdMode := .coherent }

/-- The ACTIVE part of sections 1.5 and 11.1: link UP with 2 credits, requesters 0–7 enabled with quota 4, miss
logging on. -/
def active : State :=
  { State.reset with
    powerOn := false
    wt := { State.reset.wt with
            windows := ((State.reset.wt.windows.set 0 window0).set 1 window1).set 2 window2
            missLogging := true }
    rqt := { State.reset.rqt with
             requesters := mapTable (fun r q => { q with enabled := decide (r.val < 8) })
               State.reset.rqt.requesters }
    mli := { State.reset.mli with state := .up, credits := 2 }
    mnt := { State.reset.mnt with opState := .active } }

/-- A state with entry i as given, last in the age order and, when it is WAITING, ISSUED or HELD, counted for its
requester. -/
def withEntry (i : EntryNo) (e : Entry) (s : State) : State :=
  { s with
    dt := { entries := s.dt.entries.set i e, age := s.dt.age ++ [i] }
    rqt := { s.rqt with
             requesters := mapTable
               (fun r q => { q with held := q.held + if e.live && e.requester == some r then 1 else 0 })
               s.rqt.requesters } }

/-- A state with a tag as given. -/
def withTag (t : TagNo) (x : Tag) (s : State) : State := { s with mli := s.mli.setTag t x }

/-- A state with the operating state as given. -/
def inOp (o : OpState) (s : State) : State := { s with mnt := { s.mnt with opState := o } }

/-- A state with the queue as given. -/
def withQueue (q : List PostedWrite) (s : State) : State := { s with pwq := q }

/-- A posted write of a requester to a downstream address, of 8 bytes. -/
def posted (r : RequesterNo) (a : DownAddr) (st : WriteState) : PostedWrite :=
  { requester := r, address := a, length := 8, data := List.replicate 8 0x5A#8, state := st }

/-- A state with the members of the In-Flight Write List as given. -/
def withFlights (fs : List FlightRef) (s : State) : State :=
  { s with
    mli := { s.mli with
             flights := fs.map fun r => { ref := r, issueTick := 0, ackTimeout := 8192, elapsed := 0 } } }

/-- The WAITING READ of section 11.1: requester 5 reads 16 bytes at 0x00_4000_2010 through window 1. -/
def waitingRead : Entry :=
  { Entry.free with
    state := .waiting, kind := some .read, requester := some 5, window := some 1, hold := some .coherent
    key := some (.exactRead 5 0x0040002010#40 16), line := some 0x0007000080#38
    span := some { offset := 16, length := 16 } }

/-- A READ ISSUED with tag 0 in the place of section 11.1's. -/
def issuedRead : Entry :=
  { waitingRead with state := .issued, tag := some 0, completionTimer := some 8192 }

/-- The same READ HELD(OK). -/
def heldRead : Entry :=
  { waitingRead with
    state := .held, data := some (List.replicate 16 0xA5#8), result := some .ok
    discardTimer := some 2048 }

/-- The part of section 11.1 after its event 2. -/
def readIssued : State := withTag 0 (.bound 0) (withEntry 0 issuedRead active)

/-- A WAITING NP_WRITE of requester 2 through window 0, row c of section 1.5. -/
def waitingWrite : Entry :=
  { Entry.free with
    state := .waiting, kind := some .npWrite, requester := some 2, window := some 0
    key := some (.npWrite 2 0x0040000800#40 8), line := some 0x0020000020#38
    span := some { offset := 0, length := 8 }, data := some (List.replicate 8 0x11#8) }

/-- A WAITING SYNC of a requester with a pending count. -/
def waitingSync (r : RequesterNo) (n : Nat) : Entry :=
  { Entry.free with
    state := .waiting, kind := some .sync, requester := some r, key := some (.sync r), pending := some n }

/-- A part whose 24 entries are all HELD READs of requester 20, its Waiting List as given (section 11.2). -/
def exhausted (waiting : List RequesterNo) : State :=
  { active with
    waiting := waiting
    dt := { entries := mapTable
              (fun i _ => { heldRead with
                            requester := some 20
                            key := some (.exactRead 20 (BitVec.ofNat 40 (0x40002000 + i.val)) 16) })
              active.dt.entries
            age := List.finRange 24 } }

/-- The state a command leaves, or the state before it where it stops. -/
def after (i : Instr) (s : State) : State :=
  match exec i s with
  | .next t => t
  | .fault _ => s
  | .refused _ => s

/-- The state a request leaves whose check codes pass. -/
def afterRequest (q : UpRequest) (s : State) : State :=
  match s.request true true q with
  | .next t => t
  | .fault _ => s
  | .refused _ => s

/-- The row UPSTREAM_REQUEST is the tested function, for a request with good check codes. -/
theorem exec_request (r : RequesterNo) (c : UpCommand) (a : UpAddr) (n : Nat) (d : List Byte) (s : State) :
    exec (.upstreamRequest (request r c a n d)) s = s.request true true (request r c a n d) := by
  simp [exec, execUpstreamRequest, requestCheckPasses, dataCheckPasses, request]

/-! ## UPSTREAM_REQUEST (sections 1.5, 5.8, 11.1, 11.2) -/

/-- Section 11.1, event 1. -/
theorem test_read_creates_entry :
    let t := afterRequest (request 5 .read 0x0040002010 16 []) active
    t.dt.entries[0] = waitingRead ∧ t.dt.age = [0] ∧ t.rqt.requesters[5].held = 1 ∧
      t.out.response = some .retry := by decide +kernel

/-- Section 1.5, row b: window 0 claims the address and denies requester 5. -/
theorem test_lowest_window_denies :
    let t := afterRequest (request 5 .write 0x0040000800 8 (List.replicate 8 0)) active
    t.out.response = some (.fault .denied) ∧
      t.flt.log = [{ kind := .denied, time := 0, requester := some 5, window := some 0,
                     up := some 0x0040000800 }] := by decide +kernel

/-! ## ARBITER_GRANT (sections 6.8, 11.1) -/

/-- Section 11.1, event 2. -/
theorem test_grant_read :
    let t := after .arbiterGrant (withEntry 0 waitingRead active)
    t.out.request = some (.readReq 0 0x001C0002010 16) ∧ t.dt.entries[0].state = .issued ∧
      t.dt.entries[0].completionTimer = some 8192 ∧ t.mli.credits = 1 := by decide +kernel

/-- Section 6.8, event 3: a streak at WRITE_BURST gives the turn to the oldest eligible deferral entry. -/
theorem test_streak_yields :
    let t := after .arbiterGrant
      { withEntry 0 waitingRead (withQueue [posted 3 0x001C0000100 .queued] active) with streak := 4 }
    t.dt.entries[0].state = .issued ∧ t.streak = 0 ∧ t.mli.flights = [] := by decide +kernel

/-! ## READ_CPL (sections 11.1, 11.3, 11.4) -/

/-- Section 11.1, event 4. -/
theorem test_completion_holds_data :
    let t := readIssued.completion true { tag := 0, status := .ok, data := List.replicate 16 7, dataCheck := 0 }
    t.dt.entries[0].state = .held ∧ t.dt.entries[0].result = some .ok ∧
      t.dt.entries[0].discardTimer = some 2048 ∧ t.mli.tags[0] = .free := by decide +kernel

/-- Section 11.4, event 4. -/
theorem test_late_completion :
    let t := after (.readCpl { tag := 6, status := .ok, data := [], dataCheck := 0 })
      (withTag 6 (.quarantined 2 0x00100000000 12) active)
    t.mli.tags[6] = .free ∧ t.flt.alert = false ∧
      t.flt.log = [{ kind := .lateCompletion, time := 0, requester := some 2, down := some 0x00100000000,
                     entry := some 12, tag := some 6, status := some .ok }] := by decide +kernel

/-! ## WRITE_ACK (section 5.8) -/

/-- The state of section 5.8 before its event 6. -/
def barriers : State :=
  withEntry 1 (waitingSync 5 3) (withEntry 0 (waitingSync 2 2)
    (withFlights [.posted, .posted]
      (withQueue [posted 5 0x001C0003000 .issued, posted 2 0x001C0000140 .issued,
        posted 5 0x001C0003040 .queued] active)))

/-- Section 5.8, event 6. -/
theorem test_refused_write_marks_own_sync :
    let t := after (.writeAck .refused) barriers
    t.dt.entries[0] = waitingSync 2 1 ∧ t.dt.entries[1] = { waitingSync 5 2 with failure := true } ∧
      t.flt.log = [{ kind := .writeFailed, time := 0, requester := some 5, down := some 0x001C0003000,
                     status := some .refused }] := by decide +kernel

/-! ## CREDIT, LINK_UP, LINK_DOWN (R110, R136, section 11.5) -/

theorem test_credit_stops_at_16 :
    (after (.credit 15) active).mli.credits = 16 := by decide +kernel

theorem test_link_up_dropped_in_resetting :
    (after .linkUp { active with mli := { active.mli with state := .resetting } }).mli.state = .resetting := by
  decide +kernel

/-- The state of section 11.5 at its start, with requester 8 replaced by requester 5. -/
def linkLoss : State :=
  withEntry 4 waitingRead (withEntry 2 (waitingSync 3 2)
    (withFlights [.posted]
      (withQueue [posted 3 0x001C0000100 .issued, posted 3 0x001C0002000 .queued] active)))

/-- Section 11.5, event 1. -/
theorem test_link_loss :
    let t := after .linkDown linkLoss
    t.dt.entries[2].result = some .linkDown ∧ t.dt.entries[2].pending = some 2 ∧
      t.pwq = [posted 3 0x001C0002000 .queued] ∧
      t.flt.log = [{ kind := .linkDown, time := 0, count := some 1 },
        { kind := .writeFateUnknown, time := 0, requester := some 3, down := some 0x001C0000100 }] := by
  decide +kernel

/-! ## The timers (sections 4.6, 7.9, 11.2, 11.4) -/

/-- Section 11.4, event 1, on the READ of requester 5. -/
theorem test_timeout_quarantines :
    let t := after (.completionTimerExpiry 0)
      (withTag 0 (.bound 0) (withEntry 0 { issuedRead with completionTimer := some 0 } active))
    t.dt.entries[0].result = some .timeout ∧ t.mli.tags[0] = .quarantined 5 0x001C0002010 0 ∧
      t.flt.alert = true := by decide +kernel

/-- A timer whose time is not reached does not expire. -/
theorem test_timeout_not_due : after (.completionTimerExpiry 0) readIssued = readIssued := rfl

/-- A part with P1 at the head of the list, its time reached (section 7.9). -/
def ackDue : State :=
  { withQueue [posted 2 0x001C0000200 .issued] active with
    mli := { active.mli with
             flights := [{ ref := .posted, issueTick := 0, ackTimeout := 8192, elapsed := 8192 }] } }

/-- Section 7.9, event 1. -/
theorem test_ack_timeout :
    let t := after .ackTimerExpiry ackDue
    t.mli.state = .resetting ∧ t.mli.linkReset = true ∧ t.mli.credits = 0 ∧ t.mli.flights.length = 1 ∧
      t.flt.log = [{ kind := .ackTimeout, time := 0, requester := some 2, down := some 0x001C0000200 }] := by
  decide +kernel

/-- P2 behind P1, both issued 9000 ticks ago, P1's time not reached (section 6.5). -/
def ackDueBehind : State :=
  { withQueue [posted 2 0x001C0000200 .issued, posted 3 0x001C0000300 .issued] active with
    mli := { active.mli with
             flights := [{ ref := .posted, issueTick := 0, ackTimeout := 10000, elapsed := 9000 },
               { ref := .posted, issueTick := 0, ackTimeout := 8192, elapsed := 9000 }] } }

/-- R131: the head whose time has passed expires at once behind the acknowledgement that makes it the head. -/
theorem test_new_head_expires_at_once :
    let t := after (.writeAck .refused) ackDueBehind
    t.pwq.length = 1 ∧ t.mli.flights.length = 1 ∧ t.mli.state = .resetting ∧ t.mli.credits = 0 ∧
      t.flt.log.map (fun r => (r.kind, r.requester)) =
        [(.writeFailed, some 2), (.ackTimeout, some 3)] := by decide +kernel

/-- Section 4.6, event 6, on the READ of requester 5. -/
theorem test_discard :
    let t := after (.discardTimerExpiry 0) (withEntry 0 { heldRead with discardTimer := some 0 } active)
    t.dt.entries[0] = Entry.free ∧ t.rqt.requesters[5].discards = 1 ∧ t.rqt.requesters[5].held = 0 ∧
      t.flt.log.map FaultRecord.kind = [.discard] := by decide +kernel

/-- An entry reserved for requester 7 whose reservation timer is due, with requester 11 waiting. -/
def reservedDue : State :=
  { active with
    waiting := [11]
    dt := active.dt.put 5 { Entry.free with reservedFor := some 7, reservationTimer := some 0 } }

/-- Section 11.2, event 4. -/
theorem test_reservation_passes_on :
    let t := after (.reservationTimerExpiry 5) reservedDue
    t.waiting = [] ∧ t.dt.entries[5].reservedFor = some 11 ∧
      t.dt.entries[5].reservationTimer = some 128 := by decide +kernel

/-- An entry held for requester 5 whose discard timer is due, at tick 2048. -/
def discardDue : State :=
  { withEntry 0 { heldRead with discardTimer := some 0 } active with ticks := 2048 }

/-- R58, R188: the tick behind the time of a discard timer finds the entry freed, with the count of its own tick. -/
theorem test_tick_takes_due_discard :
    let t := after .timebaseTick discardDue
    t.ticks = 2049 ∧ t.dt.entries[0] = Entry.free ∧ t.rqt.requesters[5].discards = 1 ∧
      t.flt.log.map (fun r => (r.kind, r.time)) = [(.discard, 2048)] := by decide +kernel

/-- R131, R188: so does it the head whose time is reached. -/
theorem test_tick_takes_due_ack :
    let t := after .timebaseTick ackDue
    t.mli.state = .resetting ∧ t.flt.log.map FaultRecord.kind = [.ackTimeout] := by decide +kernel

/-- R188: the count wraps from 2^32 - 1 to 0. -/
theorem test_tick_wraps : (after .timebaseTick { active with ticks := 0xFFFFFFFF }).ticks = 0 := by
  decide +kernel

/-! ## The commands of the Maintenance Port (sections 2.7, 4.6, 9.7, 11.6) -/

/-- `active` with the staging record of section 2.7: enabled, base 0x00_8000_0000, k as given, target base as
given. -/
def staged (k : BitVec 8) (target : DownAddr) : State :=
  { active with
    wt := { active.wt with
            staging := { active.wt.staging with
                         enabled := true, upBase := 0x0080000000, k := k, target := target } } }

/-- Section 2.7, command 1. -/
theorem test_commit_unaligned :
    (after (.windowCommit 0x58 4) (staged 21 0x00200080000)).mnt.cmdOutcome = .badWindow := by
  decide +kernel

/-- Section 2.7, command 3: k 41. -/
theorem test_commit_k_41 :
    (after (.windowCommit 0x58 4) (staged 41 0x00200000000)).mnt.cmdOutcome = .badWindow := by
  decide +kernel

/-- Section 4.6, event 10: an ISSUED entry of a disabled requester becomes ORPHANED. -/
theorem test_disable :
    let t := after (.requesterCommit 0x58 5)
      { readIssued with rqt := { readIssued.rqt with staging := { enabled := false, quota := 4 } } }
    t.dt.entries[0].state = .orphaned ∧ t.rqt.requesters[5].held = 0 ∧ t.mnt.cmdOutcome = .ok := by
  decide +kernel

/-- A log of one record of a kind that is alert-enabled at reset. -/
def logged : State := active.log [{ kind := .linkDown, time := 0, count := some 2 }]

theorem test_pop_releases_alert :
    logged.flt.alert = true ∧ (after (.logPop 0x58 0) logged).flt.alert = false := by decide +kernel

theorem test_pop_empty : (after (.logPop 0x58 0) active).mnt.cmdOutcome = .state := by decide +kernel

/-- Section 9.7, event 7. -/
theorem test_log_clear :
    (after (.logClear 0x58 0) { logged with flt := { logged.flt with overflow := true } }).flt =
      active.flt := by decide +kernel

theorem test_counter_clear_32 : (after (.counterClear 0x58 32) active).mnt.cmdOutcome = .badArg := by
  decide +kernel

/-- R69: the captured entry with its age position. -/
theorem test_entry_view :
    (after (.entryView 0x58 0) readIssued).mnt.snapshot = ⟨0, 1, issuedRead⟩ := by decide +kernel

theorem test_quiesce :
    (after (.quiesce 0x58 0) active).mnt.opState = .quiesced ∧
      (after (.quiesce 0x58 0) readIssued).mnt.opState = .quiescing := by decide +kernel

theorem test_resume : (after (.resume 0x58 0) (inOp .quiesced active)).mnt.opState = .active := by
  decide +kernel

/-- R67, R96: the records of a path reset. -/
theorem test_path_reset :
    let t := after (.pathReset 0x58 0) (inOp .quiescing linkLoss)
    t.mnt.opState = .quiesced ∧ t.mli.state = .resetting ∧
      t.flt.log = [{ kind := .pathResetDiscard, time := 0, count := some 2 }] := by decide +kernel

theorem test_link_reset :
    let t := after (.linkReset 0x58 0) active
    t.mli.state = .resetting ∧ t.mli.linkReset = true ∧ t.mli.credits = 0 := by decide +kernel

theorem test_unnamed_code :
    (after (.unnamedCommandCode 0x58 0x0B 0) active).mnt.cmdOutcome = .badArg ∧
      (after (.unnamedCommandCode 0x58 0x0B 0) (inOp .loading active)).mnt.cmdOutcome = .state := by
  decide +kernel

/-- Section 9.7, event 3: an alert-enable turned off releases the line. -/
theorem test_alert_enable : (after (.alertEnableWrite 0x58 0) logged).flt.alert = false := by decide +kernel

/-- R175: MNT_STATUS of an ACTIVE part at address 0x58 with ACCESS_ERROR set, which the read clears. -/
theorem test_status_read :
    let t := after (.mntStatusRead 0x58 5) { active with mnt := { active.mnt with accessError := true } }
    t.out.portRead = [0x00, 0x58, 0x00, 0x11, 0xFF] ∧ t.mnt.accessError = false := by decide +kernel

/-- R187: a PATH_CTRL write with a WRITE_BURST of 0 leaves the miss policy unchanged. -/
theorem test_path_ctrl_zero_burst :
    let t := after (.registerWrite { device := 0x58, address := 0x0020, data := [0, 0, 1, 0] }) active
    t.wt.missPolicy = .fault ∧ t.mnt.accessError = true := by decide +kernel

theorem test_short_write :
    (after (.registerWrite { device := 0x58, address := 0x0010, data := [0, 0, 1] }) active).mnt.accessError =
      true := by decide +kernel

/-! ## Resets and the load (sections 10.5, 10.6) -/

theorem test_power_on_reset : after .powerOnReset readIssued = State.reset := rfl

theorem test_deassertion :
    let t := after (.powerOnResetDeassertion 3) State.reset
    t.powerOn = false ∧ t.mnt.straps = 3 ∧ t.mnt.opState = .loading := by decide +kernel

/-- A part whose load runs. -/
def loading : State := after (.powerOnResetDeassertion 0) State.reset

/-- An image of one requester record: requester 3 enabled with quota 24.  Its check is the sum of 0x4D, 0x56,
0x1C, 0x47, 1, 2, 3, 1 and 24. -/
def image : List Byte :=
  [0x4D, 0x56, 0x1C, 0x47, 0x01, 0x01, 0x25, 0x02, 0x03, 0x01, 0x18] ++ List.replicate 16 0

theorem test_load :
    let t := after (.endOfLoad (.answers image)) loading
    t.mnt.loadStatus = .loaded ∧ t.mnt.opState = .active ∧ t.rqt.requesters[3].enabled = true ∧
      t.rqt.requesters[3].quota = 24 := by decide +kernel

theorem test_load_cut_off_in_record :
    let t := after (.endOfLoad (.answers (image.take 26))) loading
    t.mnt.loadStatus = .bad ∧ t.mnt.opState = .active ∧
      t.flt.log = [{ kind := .imageBad, time := 0, count := some 1 }] := by decide +kernel

/-- R66: WAITING entries become FREE, ISSUED ones ORPHANED. -/
theorem test_bus_reset :
    let t := after .busReset (withEntry 1 waitingWrite readIssued)
    t.dt.entries[0].state = .orphaned ∧ t.dt.entries[1] = Entry.free ∧ t.mli.tags[0] = .bound 0 ∧
      t.dt.age = [0] := by decide +kernel

/-! ## Witnesses: the hypotheses of each obligation can be met together, clause by clause -/

theorem checkGood_request (r : RequesterNo) (c : UpCommand) (a : UpAddr) (n : Nat) (d : List Byte) :
    CheckGood (request r c a n d) := rfl

theorem dataGood_request (r : RequesterNo) (c : UpCommand) (a : UpAddr) (n : Nat) (d : List Byte) :
    DataGood (request r c a n d) := rfl

/-- R8's three cases, as the model tests them. -/
theorem illFormed_iff (q : UpRequest) : IllFormed q ↔ malformed q = true := by
  unfold malformed IllFormed badExtent crossesLine upOffset
  cases h : q.command <;> simp [or_assoc]

/-- A request with its check codes good is decoded when the part is not LOADING, the form is right and the
requester enabled. -/
theorem decoded_request {r : RequesterNo} {c : UpCommand} {a : UpAddr} {n : Nat} {d : List Byte} {s : State}
    (ho : s.mnt.opState ≠ .loading) (hf : malformed (request r c a n d) = false)
    (he : s.rqt.requesters[r].enabled = true) : Decoded (request r c a n d) s :=
  ⟨ho, rfl, by rw [illFormed_iff, hf]; decide, he⟩

/-- Rows a, b, c, d, h, i of section 1.5. -/
def rowA : UpRequest := request 5 .read 0x0040002010 16 []
def rowB : UpRequest := request 5 .write 0x0040000800 8 (List.replicate 8 0x11)
def rowC : UpRequest := request 2 .write 0x0040000800 8 (List.replicate 8 0x11)
def rowD : UpRequest := request 5 .write 0x0040003000 64 (List.replicate 64 0x22)
def rowH : UpRequest := request 5 .write 0x8000000040 4 (List.replicate 4 0x33)
def rowI : UpRequest :=
  { request 5 .write 0x0040002000 8 (List.replicate 8 0x44) with
    dataCheck := Config.dataCheckCode (List.replicate 8 0x44) + 1 }

/-- Row k of section 1.5. -/
def rowK : UpRequest := request 5 .sync 0 0 []

theorem claimed_rowA (s : State) (hw : s.wt = active.wt) (ho : s.mnt.opState ≠ .loading)
    (he : s.rqt.requesters[(5 : RequesterNo)].enabled = true) :
    ClaimedBy 1 rowA s ∧ InMask s.wt.windows[(1 : WindowNo)] rowA.requester := by
  refine ⟨⟨decoded_request ho (by decide) he, Or.inl rfl, ?_⟩, ?_⟩
  · unfold ClaimsAddress InWindow; rw [hw]; decide +kernel
  · unfold InMask; rw [hw]; decide +kernel

theorem handedOver_rowA (s : State) (hw : s.wt = active.wt) (ho : s.mnt.opState ≠ .loading)
    (he : s.rqt.requesters[(5 : RequesterNo)].enabled = true) : HandedOver rowA s waitingRead := by
  obtain ⟨hc, hm⟩ := claimed_rowA s hw ho he
  refine Or.inr ⟨1, hc, hm, Or.inl ⟨rfl, ?_⟩⟩
  rw [hw]; decide +kernel

theorem handedOver_rowC (s : State) (hw : s.wt = active.wt) (ho : s.mnt.opState ≠ .loading)
    (he : s.rqt.requesters[(2 : RequesterNo)].enabled = true) : HandedOver rowC s waitingWrite := by
  refine Or.inr ⟨0, ⟨decoded_request ho (by decide) he, Or.inr rfl, ?_⟩, ?_, Or.inr ⟨rfl, ?_, rfl, ?_⟩⟩
  · unfold ClaimsAddress InWindow; rw [hw]; decide +kernel
  · unfold InMask; rw [hw]; decide +kernel
  · rw [hw]; decide +kernel
  · rw [hw]; decide +kernel

theorem handedOver_rowK (s : State) (ho : s.mnt.opState ≠ .loading)
    (he : s.rqt.requesters[(5 : RequesterNo)].enabled = true) :
    HandedOver rowK s (waitingSync 5 s.pwq.length) :=
  Or.inl ⟨decoded_request ho (by decide) he, rfl, rfl⟩

theorem witness_StepRunsFrontCommand :
    ({ active with pending := [.linkUp, .linkDown] } : State).pending = .linkUp :: [.linkDown] := rfl

theorem witness_DecodeRefusesBeforeTheWindows :
    loading.mnt.opState = .loading ∧ active.mnt.opState ≠ .loading ∧
      ¬ CheckGood { rowA with requestCheck := rowA.requestCheck + 1 } ∧
      (∀ q ∈ [request 5 .read 0x0040002010 0 [], request 5 .read 0x0040002000 65 [],
          request 5 .read 0x0040003038 16 [], request 5 (.illegal 3) 0 4 []],
        CheckGood q ∧ IllFormed q) ∧
      CheckGood (request 9 .read 0x0040002010 16 []) ∧ ¬ IllFormed (request 9 .read 0x0040002010 16 []) ∧
      active.rqt.requesters[(9 : RequesterNo)].enabled = false := by
  refine ⟨by decide +kernel, by decide +kernel, Nat.succ_ne_self _, ?_, rfl, ?_, by decide +kernel⟩
  · intro q hq
    simp only [List.mem_cons, List.not_mem_nil, or_false] at hq
    rcases hq with rfl | rfl | rfl | rfl <;> exact ⟨rfl, by rw [illFormed_iff]; decide⟩
  · rw [illFormed_iff]; decide

theorem witness_UnclaimedRequestMeetsMissPolicy :
    Decoded (request 5 .read 0xC000000000 4 []) active ∧
      ∀ n : WindowNo, ¬ InWindow active.wt.windows[n] 0xC000000000#40 :=
  ⟨decoded_request (by decide) (by decide) (by decide +kernel), by unfold InWindow; decide +kernel⟩

/-- A part whose window 0 has the write-mode value that names no mode. -/
def unnamedMode : State :=
  { active with
    wt := { active.wt with windows := active.wt.windows.set 0 { window0 with writeMode := .unnamed } } }

theorem witness_ClaimingWindowRefuses :
    (ClaimedBy 0 rowB active ∧ ¬ InMask active.wt.windows[(0 : WindowNo)] 5) ∧
      (ClaimedBy 2 rowH active ∧ InMask active.wt.windows[(2 : WindowNo)] 5 ∧
        active.wt.windows[(2 : WindowNo)].writeMode = .readOnly) ∧
      (ClaimedBy 1 rowI active ∧ InMask active.wt.windows[(1 : WindowNo)] 5 ∧
        active.wt.windows[(1 : WindowNo)].writeMode = .posted ∧ ¬ DataGood rowI) ∧
      (ClaimedBy 0 rowC unnamedMode ∧ InMask unnamedMode.wt.windows[(0 : WindowNo)] 2 ∧
        unnamedMode.wt.windows[(0 : WindowNo)].writeMode = .unnamed) := by
  unfold InMask
  refine ⟨⟨⟨decoded_request (by decide) (by decide) (by decide +kernel), Or.inr rfl, ?_⟩, by decide +kernel⟩,
    ⟨⟨decoded_request (by decide) (by decide) (by decide +kernel), Or.inr rfl, ?_⟩, by decide +kernel,
      by decide +kernel⟩,
    ⟨⟨⟨by decide, rfl, by rw [illFormed_iff]; decide, by decide +kernel⟩, Or.inr rfl, ?_⟩, by decide +kernel,
      by decide +kernel, Nat.succ_ne_self _⟩,
    ⟨⟨decoded_request (by decide) (by decide) (by decide +kernel), Or.inr rfl, ?_⟩, by decide +kernel,
      by decide +kernel⟩⟩ <;>
  · unfold ClaimsAddress InWindow; decide +kernel

theorem witness_TranslationStaysInWindow :
    LegalWindow window0 ∧ InWindow window0 0x0040000000 ∧ InWindow window0 0x0040000FFF ∧
      LegalWindow { window0 with k := 40, upBase := 0, target := 0xF0000000000 } ∧
      InWindow { window0 with k := 40, upBase := 0 } 0xFFFFFFFFFF := by
  unfold LegalWindow InWindow; decide +kernel

/-- A part with n records QUEUED. -/
def queueOf (n : Nat) : State := withQueue (List.replicate n (posted 3 0x001C0000100 .queued)) active

theorem claimed_rowD (s : State) (hw : s.wt = active.wt) (ho : s.mnt.opState ≠ .loading)
    (he : s.rqt.requesters[(5 : RequesterNo)].enabled = true) :
    ClaimedBy 1 rowD s ∧ InMask s.wt.windows[(1 : WindowNo)] rowD.requester ∧
      s.wt.windows[(1 : WindowNo)].writeMode = .posted ∧ DataGood rowD := by
  refine ⟨⟨decoded_request ho (by decide) he, Or.inr rfl, ?_⟩, ?_, ?_, rfl⟩
  · unfold ClaimsAddress InWindow; rw [hw]; decide +kernel
  · unfold InMask; rw [hw]; decide +kernel
  · rw [hw]; decide +kernel

/-- Rows d and e of section 1.5: 31 records, then 32; and a QUIESCING part. -/
theorem witness_PostedWriteAcceptedOrRetried :
    (∀ s ∈ [queueOf 31, queueOf 32, inOp .quiescing active], ClaimedBy 1 rowD s ∧
      InMask s.wt.windows[(1 : WindowNo)] rowD.requester ∧
      s.wt.windows[(1 : WindowNo)].writeMode = .posted ∧ DataGood rowD) ∧
      (queueOf 31).mnt.opState = .active ∧ (queueOf 31).pwq.length < 32 ∧ 32 ≤ (queueOf 32).pwq.length ∧
      (inOp .quiescing active).mnt.opState = .quiescing := by
  refine ⟨fun s hs => ?_, by decide, by decide, by decide, rfl⟩
  simp only [List.mem_cons, List.not_mem_nil, or_false] at hs
  rcases hs with rfl | rfl | rfl <;> exact claimed_rowD _ rfl (by decide) (by decide +kernel)

/-- Each clause of the freshness rules, on the line of section 11.1's read. -/
theorem witness_FreshnessActsOnCoherentReads :
    ∀ e ∈ [{ heldRead with refetch := 2 }, { heldRead with refetch := 3 },
        { heldRead with result := some .timeout }, issuedRead, waitingRead,
        { issuedRead with state := .orphaned }],
      e.kind = some .read ∧ e.hold = some .coherent ∧ e.line = some 0x0007000080#38 := by decide

theorem witness_RepeatOfUnansweredEntryRetries :
    HandedOver rowA readIssued waitingRead ∧ readIssued.KeysDistinct ∧
      readIssued.dt.entries[(0 : EntryNo)].state = .issued ∧
      readIssued.dt.entries[(0 : EntryNo)].key = waitingRead.key :=
  ⟨handedOver_rowA _ rfl (by decide) (by decide +kernel), by decide +kernel, by decide +kernel,
    by decide +kernel⟩

theorem witness_HeldEntryIsDelivered :
    HandedOver rowA (withEntry 0 heldRead active) waitingRead ∧
      (withEntry 0 heldRead active).KeysDistinct ∧
      (withEntry 0 heldRead active).dt.entries[(0 : EntryNo)] = heldRead ∧
      heldRead.state = .held ∧ heldRead.key = waitingRead.key ∧ heldRead.result = some .ok :=
  ⟨handedOver_rowA _ rfl (by decide) (by decide +kernel), by decide +kernel, by decide +kernel, rfl, rfl, rfl⟩

/-- A part with the link DOWN. -/
def linkIsDown : State := { active with mli := { active.mli with state := .down, credits := 0 } }

/-- A part whose requester 5 has held count 4, its quota. -/
def overQuota : State :=
  { active with rqt := active.rqt.update 5 fun q => { q with held := 4 } }

/-- A part whose entry 5 is reserved for requester 5. -/
def reservedForFive : State :=
  { active with
    dt := active.dt.put 5 { Entry.free with reservedFor := some 5, reservationTimer := some 128 } }

theorem noMatch_of {s : State} {e : Entry} (k : MatchKey) (hk : e.key = some k)
    (h : s.dt.matching k = none) : NoMatch s e := by
  intro i hl
  rw [hk]
  have h1 := DeferralTable.matching_none.1 h i
  have h2 : s.dt.entries[i].live = true := by
    unfold Live at hl; unfold Entry.live
    rcases hl with hl | hl | hl <;> rw [hl]
  intro hc
  have h3 : (s.dt.entries[i].live && s.dt.entries[i].key == some k) = true := by rw [h2, hc]; simp
  simp_all

theorem witness_MissIsRefusedOrCreatesEntry :
    (∀ s ∈ [linkIsDown, inOp .quiesced active, overQuota, exhausted [], active, reservedForFive],
      HandedOver rowA s waitingRead ∧ rowA.command ≠ .sync ∧ NoMatch s waitingRead) ∧
      linkIsDown.mli.state ≠ .up ∧ (inOp .quiesced active).mnt.opState = .quiesced ∧
      overQuota.rqt.requesters[(5 : RequesterNo)].quota ≤ overQuota.rqt.requesters[(5 : RequesterNo)].held ∧
      NoneAvailable (exhausted []) 5 ∧
      active.rqt.requesters[(5 : RequesterNo)].held < active.rqt.requesters[(5 : RequesterNo)].quota ∧
      Takes active 5 0 ∧ Takes reservedForFive 5 5 := by
  refine ⟨fun s hs => ?_, by decide, rfl, by decide +kernel, ?_, by decide +kernel, ?_, ?_⟩
  · simp only [List.mem_cons, List.not_mem_nil, or_false] at hs
    rcases hs with rfl | rfl | rfl | rfl | rfl | rfl <;>
      exact ⟨handedOver_rowA _ rfl (by decide) (by decide +kernel), by decide,
        noMatch_of _ rfl (by decide +kernel)⟩
  · unfold NoneAvailable ReservedFree UnreservedFree; decide +kernel
  · unfold Takes ReservedFree UnreservedFree; decide +kernel
  · unfold Takes ReservedFree UnreservedFree; decide +kernel

/-- The NP_WRITE of row c is handed over and matches no entry. -/
theorem witness_MissIsRefusedOrCreatesEntry_npWrite :
    HandedOver rowC active waitingWrite ∧ rowC.command ≠ .sync ∧ NoMatch active waitingWrite :=
  ⟨handedOver_rowC _ rfl (by decide) (by decide +kernel), by decide, noMatch_of _ rfl (by decide +kernel)⟩

theorem witness_SyncIsAnsweredRefusedOrCreatesEntry :
    (∀ s ∈ [active, withQueue (queueOf 32).pwq linkIsDown, inOp .quiescing (queueOf 1),
        withQueue (queueOf 1).pwq overQuota, withQueue (queueOf 1).pwq (exhausted []), queueOf 32],
      HandedOver rowK s (waitingSync 5 s.pwq.length) ∧ rowK.command = .sync ∧
        NoMatch s (waitingSync 5 s.pwq.length)) ∧
      active.pwq = [] ∧ (queueOf 32).pwq ≠ [] ∧ NoneAvailable (withQueue (queueOf 1).pwq (exhausted [])) 5 ∧
      Takes (queueOf 32) 5 0 := by
  refine ⟨fun s hs => ?_, rfl, by decide, ?_, ?_⟩
  · simp only [List.mem_cons, List.not_mem_nil, or_false] at hs
    rcases hs with rfl | rfl | rfl | rfl | rfl | rfl <;>
      exact ⟨handedOver_rowK _ (by decide) (by decide +kernel), rfl, noMatch_of _ rfl (by decide +kernel)⟩
  · unfold NoneAvailable ReservedFree UnreservedFree; decide +kernel
  · unfold Takes ReservedFree UnreservedFree; decide +kernel

/-- Section 6.8: a part with two QUEUED records, a WAITING READ and a WAITING NP_WRITE. -/
def round : State :=
  withEntry 2 waitingWrite (withEntry 0 waitingRead
    (withQueue [posted 3 0x001C0000100 .queued, posted 3 0x001C0000140 .queued] active))

theorem writeEligible_round : WriteEligible round := by
  unfold WriteEligible
  exact ⟨by decide, by decide, by decide, _, List.mem_cons_self, rfl⟩

theorem witness_WriteCandidateIsGranted :
    OldestQueued round [] (posted 3 0x001C0000100 .queued) [posted 3 0x001C0000140 .queued] ∧
      WriteEligible round ∧ round.streak < round.mnt.settings.writeBurst.toNat :=
  ⟨⟨rfl, rfl, by decide⟩, writeEligible_round, by decide⟩

theorem eligible_read (s : State) (h : s.dt.entries[(0 : EntryNo)] = waitingRead) (hc : 0 < s.mli.credits)
    (hq : hazardBlocked s.pwq waitingRead = false) (ht : s.mli.tags[(0 : TagNo)] = .free) :
    DeferralEligible s 0 := by
  unfold DeferralEligible Blocked
  rw [h]
  refine ⟨rfl, hc, fun hb => ?_, Or.inl ⟨rfl, 0, ht⟩⟩
  obtain ⟨w, hw, h1, h2⟩ := hb
  have h3 : hazardBlocked s.pwq waitingRead = true :=
    List.any_eq_true.2 ⟨w, hw, by rw [h1, h2]; simp [downLine]⟩
  rw [hq] at h3
  cases h3

theorem witness_OldestReadIsGranted :
    DeferralTurn { round with streak := 4 } ∧ OldestEligible { round with streak := 4 } 0 ∧
      ({ round with streak := 4 } : State).dt.entries[(0 : EntryNo)] = waitingRead ∧
      LowestFreeTag { round with streak := 4 } 0 := by
  refine ⟨⟨rfl, fun h => absurd h.2 (by decide)⟩, ⟨[], [2], by decide +kernel, ?_, fun _ h => absurd h List.not_mem_nil⟩,
    by decide +kernel, ?_⟩
  · exact eligible_read _ (by decide +kernel) (by decide) (by decide +kernel) (by decide +kernel)
  · unfold LowestFreeTag; decide +kernel

theorem witness_OldestNpWriteIsGranted :
    DeferralTurn (withEntry 2 waitingWrite active) ∧ OldestEligible (withEntry 2 waitingWrite active) 2 ∧
      (withEntry 2 waitingWrite active).dt.entries[(2 : EntryNo)] = waitingWrite := by
  have he : (withEntry 2 waitingWrite active).dt.entries[(2 : EntryNo)] = waitingWrite := by decide +kernel
  refine ⟨⟨rfl, fun h => ?_⟩, ⟨[], [], by decide +kernel, ?_, fun _ h => absurd h List.not_mem_nil⟩, he⟩
  · obtain ⟨⟨-, -, -, w, hw, -⟩, -⟩ := h
    exact absurd hw List.not_mem_nil
  · unfold DeferralEligible Blocked
    rw [he]
    exact ⟨rfl, by decide, fun ⟨w, hw, _⟩ => absurd hw List.not_mem_nil, Or.inr ⟨rfl, by decide⟩⟩

theorem witness_NoEligibleCandidateNoGrant :
    linkIsDown.mli.state ≠ .up ∧ ¬ WriteEligible active ∧ ∀ j ∈ active.dt.age, ¬ DeferralEligible active j :=
  ⟨by decide, fun ⟨_, _, _, w, hw, _⟩ => absurd hw List.not_mem_nil, fun j hj => absurd hj List.not_mem_nil⟩

theorem witness_HazardBlockedEntryIsNeverGranted :
    exec .arbiterGrant (withEntry 0 waitingRead active) =
        .next (withEntry 0 waitingRead active).grant ∧
      (withEntry 0 waitingRead active).dt.entries[(0 : EntryNo)].state = .waiting ∧
      (withEntry 0 waitingRead active).grant.dt.entries[(0 : EntryNo)].state ≠ .waiting :=
  ⟨rfl, by decide +kernel, by decide +kernel⟩

/-- A good completion of section 11.1's read. -/
def goodCompletion : ReadCompletion :=
  { tag := 0, status := .ok, data := List.replicate 16 7,
    dataCheck := Config.dataCheckCode (List.replicate 16 7) }

/-- `readIssued` with the entry changed. -/
def issuedWith (f : Entry → Entry) : State := withTag 0 (.bound 0) (withEntry 0 (f issuedRead) active)

theorem witness_GoodCompletionHoldsOrRefetches :
    ∀ s ∈ [readIssued, issuedWith fun e => { e with stale := true, refetch := 2 },
        issuedWith fun e => { e with stale := true, refetch := 3 }],
      s.powerOn = false ∧ s.mli.tags[goodCompletion.tag] = .bound 0 ∧
        s.dt.entries[(0 : EntryNo)].state = .issued ∧
        s.dt.entries[(0 : EntryNo)].span = some ⟨16, 16⟩ ∧ goodCompletion.status = .ok ∧
        goodCompletion.dataCheck = Config.dataCheckCode goodCompletion.data ∧
        goodCompletion.data.length = 16 := by
  intro s hs
  simp only [List.mem_cons, List.not_mem_nil, or_false] at hs
  rcases hs with rfl | rfl | rfl <;>
    exact ⟨rfl, by decide +kernel, by decide +kernel, by decide +kernel, rfl, rfl, rfl⟩

theorem witness_ErrorCompletionHoldsError :
    readIssued.powerOn = false ∧ readIssued.mli.tags[(0 : TagNo)] = .bound 0 ∧
      readIssued.dt.entries[(0 : EntryNo)].state = .issued ∧
      readIssued.dt.entries[(0 : EntryNo)].span = some ⟨16, 16⟩ ∧
      ({ goodCompletion with data := List.replicate 15 7 }.data.length ≠ 16) ∧
      ({ goodCompletion with status := .other 9 }.status = .other 9) :=
  ⟨rfl, by decide +kernel, by decide +kernel, by decide +kernel, by decide, rfl⟩

theorem witness_OrphanCompletionFreesTagAndEntry :
    (issuedWith fun e => { e with state := .orphaned }).powerOn = false ∧
      (issuedWith fun e => { e with state := .orphaned }).mli.tags[(0 : TagNo)] = .bound 0 ∧
      (issuedWith fun e => { e with state := .orphaned }).dt.entries[(0 : EntryNo)].state = .orphaned ∧
      (issuedWith fun e => { e with state := .orphaned }).dt.entries[(0 : EntryNo)].span = some ⟨16, 16⟩ :=
  ⟨rfl, by decide +kernel, by decide +kernel, by decide +kernel⟩

theorem witness_AnswersWithoutRequestAreDropped :
    active.powerOn = false ∧ active.mli.tags[(31 : TagNo)] = .free ∧ active.mli.flights = [] ∧
      (withTag 31 (.quarantined 2 0x00100000000 12) active).powerOn = false ∧
      (withTag 31 (.quarantined 2 0x00100000000 12) active).mli.tags[(31 : TagNo)] =
        .quarantined 2 0x00100000000 12 :=
  ⟨rfl, by decide +kernel, rfl, rfl, by decide +kernel⟩

theorem witness_AcknowledgedRecordLeavesQueue :
    ∀ s ∈ [barriers, ackDueBehind], ∃ f fs w ws, s.powerOn = false ∧ s.mli.flights = f :: fs ∧
      f.ref = .posted ∧ s.pwq = w :: ws := by
  intro s hs
  simp only [List.mem_cons, List.not_mem_nil, or_false] at hs
  rcases hs with rfl | rfl <;> exact ⟨_, _, _, _, rfl, rfl, rfl, rfl⟩

/-- A count that falls to 0, a count that does not, and an entry that is not acted on. -/
theorem witness_DepartureCountsDownSyncs :
    (waitingSync 2 1).state = .waiting ∧ (waitingSync 2 1).kind = some .sync ∧
      (waitingSync 2 1).pending = some (0 + 1) ∧ (waitingSync 2 32).pending = some (31 + 1) ∧
      ¬ ((waitingSync 2 0).state = .waiting ∧ (waitingSync 2 0).kind = some .sync ∧
        0 < (waitingSync 2 0).pending.getD 0) := by decide

/-- An NP_WRITE in flight, in the state as given. -/
def writeInFlight (st : EntryState) : State :=
  withFlights [.npWrite 2] (withEntry 2 { waitingWrite with state := st } active)

theorem witness_AcknowledgedNpWriteIsHeldOrFreed :
    ∀ st ∈ [EntryState.issued, .orphaned], ∃ f fs, (writeInFlight st).powerOn = false ∧
      (writeInFlight st).mli.flights = f :: fs ∧ f.ref = .npWrite 2 ∧
      (writeInFlight st).dt.entries[(2 : EntryNo)].state = st := by
  intro st hs
  simp only [List.mem_cons, List.not_mem_nil, or_false] at hs
  rcases hs with rfl | rfl <;> exact ⟨_, _, rfl, rfl, rfl, by decide +kernel⟩

theorem witness_CreditAndLinkUp :
    active.powerOn = false ∧ active.mli.state = .up ∧ linkIsDown.powerOn = false ∧
      linkIsDown.mli.state = .down := by decide

/-- A part with no timer due, and one whose discard timer is due. -/
theorem witness_TickTakesDueExpiriesAndCounts :
    active.powerOn = false ∧ NoneDue active ∧ discardDue.powerOn = false ∧ discardDue.SettingsLegal ∧
      discardDue.EntriesFormed ∧ dueExpiries discardDue = [.ackTimerExpiry, .discardTimerExpiry 0] :=
  ⟨rfl, ⟨by decide +kernel, nofun⟩, rfl, by decide +kernel, by decide +kernel, by decide +kernel⟩

/-- A part whose READ's time is reached, with the tags 1 to n quarantined. -/
def timeoutDue (st : EntryState) (n : Nat) : State :=
  let s := issuedWith fun e => { e with state := st, completionTimer := some 0 }
  { s with
    mli := { s.mli with
             tags := mapTable
               (fun t x => if 1 ≤ t.val ∧ t.val ≤ n then .quarantined 2 0x00100000000 12 else x)
               s.mli.tags } }

/-- An ISSUED and an ORPHANED READ, and the eighth quarantine. -/
theorem witness_CompletionTimeoutQuarantinesTag :
    (∀ s ∈ [timeoutDue .issued 0, timeoutDue .orphaned 7],
      s.dt.entries[(0 : EntryNo)].completionTimer = some 0 ∧ s.dt.entries[(0 : EntryNo)].tag = some 0 ∧
        s.dt.entries[(0 : EntryNo)].requester = some 5 ∧
        s.dt.entries[(0 : EntryNo)].line = some 0x0007000080#38 ∧
        s.dt.entries[(0 : EntryNo)].span = some ⟨16, 16⟩) ∧
      (timeoutDue .issued 0).dt.entries[(0 : EntryNo)].state = .issued ∧
      (timeoutDue .orphaned 7).dt.entries[(0 : EntryNo)].state = .orphaned ∧
      (timeoutDue .orphaned 7).mli.countTags 2 = 7 := by
  refine ⟨fun s hs => ?_, by decide +kernel, by decide +kernel, by decide +kernel⟩
  simp only [List.mem_cons, List.not_mem_nil, or_false] at hs
  rcases hs with rfl | rfl <;> decide +kernel

/-- An NP_WRITE at the head of the list, its time reached. -/
def npAckDue : State :=
  { writeInFlight .issued with
    mli := { (writeInFlight .issued).mli with
             flights := [{ ref := .npWrite 2, issueTick := 0, ackTimeout := 8192, elapsed := 8192 }] } }

theorem witness_AckTimeoutResetsLink :
    (∃ f fs w ws, ackDue.mli.flights = f :: fs ∧ f.ackTimeout ≤ f.elapsed ∧ ackDue.mli.state = .up ∧
      f.ref = .posted ∧ ackDue.pwq = w :: ws) ∧
      (∃ f fs, npAckDue.mli.flights = f :: fs ∧ f.ackTimeout ≤ f.elapsed ∧ npAckDue.mli.state = .up ∧
        f.ref = .npWrite 2) ∧
      (∃ f fs, { ackDue.mli with state := .resetting }.flights = f :: fs ∧
        { ackDue.mli with state := .resetting }.state ≠ .up) ∧
      ∃ f fs, (writeInFlight .issued).mli.flights = f :: fs ∧ f.elapsed < f.ackTimeout :=
  ⟨⟨_, _, _, _, rfl, by decide, rfl, rfl, rfl⟩, ⟨_, _, rfl, by decide, rfl, rfl⟩, ⟨_, _, rfl, by decide⟩,
    _, _, rfl, by decide⟩

theorem witness_DiscardFreesHeldEntry :
    (withEntry 0 { heldRead with discardTimer := some 0 } active).dt.entries[(0 : EntryNo)].state = .held ∧
      (withEntry 0 { heldRead with discardTimer := some 0 } active).dt.entries[(0 : EntryNo)].discardTimer =
        some 0 := by decide +kernel

theorem witness_ReservationExpiryPassesEntryOn :
    reservedDue.dt.entries[(5 : EntryNo)].state = .free ∧
      reservedDue.dt.entries[(5 : EntryNo)].reservationTimer = some 0 := by decide +kernel

/-- More entries than requesters: the last is left unreserved. -/
theorem witness_OfferReservesInListOrder :
    ([0, 1, 23] : List EntryNo).Nodup ∧ (2 : EntryNo) ∉ ([0, 1, 23] : List EntryNo) := by decide

theorem addressed_active : Addressed 0x58 active ∧ Commanded 0x58 active ∧ Addressed 0x58 loading := by
  unfold Commanded Addressed; decide +kernel

/-- Section 2.7's refusals and the boundaries of each test. -/
theorem witness_RefusedCommandsActOnNothing :
    Addressed 0x58 loading ∧ loading.mnt.opState = .loading ∧ Addressed 0x58 active ∧
      active.mnt.opState ≠ .loading ∧ 12 ≤ (12#8).toNat ∧ 32 ≤ (32#8).toNat ∧ 24 ≤ (24#8).toNat ∧
      (staged 41 0x00200000000).wt.staging.enabled = true ∧
      ¬ LegalWindow (staged 41 0x00200000000).wt.staging ∧
      (inOp .quiesced linkIsDown).mnt.opState ≠ .active ∧ linkIsDown.mli.state ≠ .up ∧
      active.flt.log = [] ∧ 10 < (11#8).toNat := by
  unfold Addressed LegalWindow; decide +kernel

theorem witness_WindowCommitReplacesAndRevokes :
    Commanded 0x58 (staged 21 0x00200000000) ∧ (4#8).toNat = (4 : WindowNo).val ∧
      LegalWindow (staged 21 0x00200000000).wt.staging ∧ active.wt.staging.enabled = false ∧
      (11#8).toNat = (11 : WindowNo).val := by
  unfold Commanded Addressed LegalWindow; decide +kernel

/-- `active` with a staged requester record. -/
def stagedRequester (en : Bool) (q : BitVec 8) : State :=
  { active with rqt := { active.rqt with staging := { enabled := en, quota := q } } }

theorem witness_RequesterCommitWritesAndWithdraws :
    ∀ s ∈ [stagedRequester true 1, stagedRequester false 24], Commanded 0x58 s ∧
      (31#8).toNat = (31 : RequesterNo).val ∧ 1 ≤ s.rqt.staging.quota.toNat ∧
      s.rqt.staging.quota.toNat ≤ 24 := by
  intro s hs
  simp only [List.mem_cons, List.not_mem_nil, or_false] at hs
  unfold Commanded Addressed
  rcases hs with rfl | rfl <;> decide +kernel

theorem witness_LogPopAndLogClear :
    Addressed 0x58 loading ∧ loading.mnt.opState = .loading ∧ Addressed 0x58 active ∧ active.flt.log = [] ∧
      Addressed 0x58 logged ∧ logged.mnt.opState ≠ .loading ∧
      logged.flt.log = { kind := .linkDown, time := 0, count := some 2 } :: [] := by
  unfold Addressed; decide +kernel

theorem witness_CounterClearAndEntryView :
    Addressed 0x58 loading ∧ loading.mnt.opState = .loading ∧ Addressed 0x58 readIssued ∧
      readIssued.mnt.opState ≠ .loading ∧ (31#8).toNat = (31 : RequesterNo).val ∧
      (23#8).toNat = (23 : EntryNo).val ∧ 24 ≤ (24#8).toNat ∧ (23 : EntryNo) ∉ readIssued.dt.age ∧
      readIssued.dt.age = [] ++ 0 :: [] := by
  unfold Addressed; decide +kernel

theorem witness_QuiesceResumeAndLinkReset :
    Addressed 0x58 active ∧ active.mnt.opState = .active ∧
      (∀ i : EntryNo, active.dt.entries[i].state = .free) ∧ active.pwq = [] ∧
      readIssued.dt.entries[(0 : EntryNo)].state ≠ .free ∧
      (inOp .quiesced active).mnt.opState = .quiesced ∧ active.mli.state = .up ∧
      linkIsDown.mli.state ≠ .up := by
  unfold Addressed; decide +kernel

theorem witness_PathResetClearsPath :
    Addressed 0x58 loading ∧ loading.mnt.opState = .loading ∧ Addressed 0x58 linkLoss ∧
      linkLoss.mnt.opState ≠ .loading := by
  unfold Addressed; decide +kernel

theorem witness_AlertEnableWriteAndStatusRead : Addressed 0x58 active := addressed_active.1

/-- The data of a write at a bound of a range: 1023, the largest RESERVATION_TIME. -/
theorem witness_SettingsWritesAreRangeTested :
    Addressed 0x58 active ∧
      ([0, 0, 3, 0xFF] : List Byte) =
        [(1023#32).extractLsb' 24 8, (1023#32).extractLsb' 16 8, (1023#32).extractLsb' 8 8,
          (1023#32).extractLsb' 0 8] ∧
      ([0, 0, 0, 0] : List Byte) =
        [(0#32).extractLsb' 24 8, (0#32).extractLsb' 16 8, (0#32).extractLsb' 8 8,
          (0#32).extractLsb' 0 8] :=
  ⟨addressed_active.1, by decide +kernel, by decide +kernel⟩

/-- A short write, a long one, a read-only register and an unmapped address. -/
theorem witness_StagingAndErrorWrites :
    Addressed 0x58 active ∧ ([0, 0, 1] : List Byte).length < 4 ∧
      ([0, 0, 0, 1, 0xAA] : List Byte) =
        [(1#32).extractLsb' 24 8, (1#32).extractLsb' 16 8, (1#32).extractLsb' 8 8, (1#32).extractLsb' 0 8]
          ++ [0xAA] ∧
      (∀ a ∈ [0x0000#16, 0x0004#16, 0x0031#16, 0x00AC#16],
        a.toNat ∉ [0x0008, 0x0010, 0x0014, 0x0018, 0x001C, 0x0020, 0x0024, 0x0030, 0x0034, 0x0038, 0x003C,
          0x0040, 0x0060, 0x0064, 0x0070, 0x00A0]) := by
  refine ⟨addressed_active.1, by decide, by decide +kernel, fun a h => ?_⟩
  simp only [List.mem_cons, List.not_mem_nil, or_false] at h
  rcases h with rfl | rfl | rfl | rfl <;> decide

/-- `active` with its three view selects as given. -/
def viewing (n : Byte) : State :=
  { active with mnt := { active.mnt with wvSelect := n, rvSelect := n, tagSelect := n } }

/-- Word 9 of the snapshot, with a window of k 64 selected, a reservation and a place on the Waiting List, a queue,
a list and a log that are not empty. -/
def showing : State :=
  { viewing 3 with
    wt := { active.wt with windows := active.wt.windows.set 3 { window0 with enabled := false, k := 64 } }
    dt := { active.dt with
            entries := active.dt.entries.set 5
              { Entry.free with reservedFor := some 3, reservationTimer := some 100 } }
    waiting := [7, 3]
    pwq := [posted 2 0x001C0000200 .issued]
    mli := npAckDue.mli
    flt := { active.flt with log := [{ kind := .discard, time := 9, requester := some 4, count := some 64 }] }
    mnt := { (viewing 3).mnt with evIndex := 9 } }

/-- The select registers at the bounds of their ranges, the two ends of the Waiting List, and each list of the
views empty and not. -/
theorem witness_ViewsShowTheSelectedRecord :
    (viewing 11).mnt.wvSelect.toNat = (11 : WindowNo).val ∧ 12 ≤ (viewing 12).mnt.wvSelect.toNat ∧
      (viewing 31).mnt.rvSelect.toNat = (31 : RequesterNo).val ∧
      32 ≤ (viewing 32).mnt.rvSelect.toNat ∧ (viewing 31).mnt.tagSelect.toNat = (31 : TagNo).val ∧
      (viewing 31).mli.tags[(31 : TagNo)] = .free ∧
      (withTag 31 (.bound 3) (viewing 31)).mli.tags[(31 : TagNo)] = .bound 3 ∧
      (withTag 31 (.quarantined 2 1 3) (viewing 31)).mli.tags[(31 : TagNo)] = .quarantined 2 1 3 ∧
      (showing.dt.entries[(5 : EntryNo)].state = .free ∧
        showing.dt.entries[(5 : EntryNo)].reservedFor = some 3) ∧
      showing.waiting = [7] ++ 3 :: [] ∧ (3 : RequesterNo) ∉ [(7 : RequesterNo)] ∧ (3 : RequesterNo) ∉ active.waiting ∧
      (showing.pwq ≠ [] ∧ showing.mli.flights ≠ [] ∧ showing.flt.log ≠ []) ∧
      (active.pwq = [] ∧ active.mli.flights = [] ∧ active.flt.log = []) ∧
      (showing.mnt.evIndex.toNat = 9 ∧ 0x00C8 ∉ mapped ∧ 0x0031 ∉ mapped) := by
  decide +kernel

/-- Section 10.8 on `showing`: requester 3 holds entry 5 with 100 ticks left and stands second on the list. -/
theorem test_requester_reservation_word :
    showing.readRegister 0x006C = 0x02006405#32 := by decide +kernel

/-- Section 10.8: kind DISCARD 14, requester present at bit 13, count present at bit 20 (log entry 26). -/
theorem test_log_status_word : showing.readRegister 0x00B0 = 0x00102E01#32 := by decide +kernel

theorem witness_PowerOnResetAndDeassertion :
    State.reset.powerOn = true ∧ ¬ Addressed 0x58 State.reset ∧ ¬ Addressed 0x59 active := by
  unfold Addressed; decide +kernel

/-- A global-settings record: the four timers 1, 2, 3 and 1023, WRITE_BURST 16, FILL with miss logging, every
alert-enable on. -/
def settingsRecord : List Byte :=
  [3, 0, 0, 1, 0, 2, 0, 3, 0x03, 0xFF, 16, 3, 0x7F, 0xFF, 0xFF, 0, 0, 0, 0, 0]

/-- A window record: window 11, enabled, READ_ONLY, LINE, AS_FETCHED, k 12, bases 0x40_0000_1000 and
0x0A0_0000_2000, requesters 0 and 31. -/
def windowRecord : List Byte :=
  [1, 11, 0x1D, 12, 0x40, 0, 0, 0x10, 0, 0, 0xA0, 0, 0, 0x20, 0, 0x80, 0, 0, 1, 0]

/-- An image of the two records; the check is their sum and the header's, 0x108 of it the header's. -/
def twoRecords : List Byte :=
  [0x4D, 0x56, 0x1C, 0x47, 2, 0x06, 0x69] ++ settingsRecord ++ windowRecord

def settingsOfRecord : ImageRecord :=
  .settings { discardTime := 1, completionTimeout := 2, ackTimeout := 3, reservationTime := 1023, writeBurst := 16 }
    .fill true (BitVec.allOnes 23)

def windowOfRecord : ImageRecord :=
  .window 11
    { enabled := true, upBase := 0x4000001000, k := 12, target := 0x0A000002000, mask := 0x80000001
      writeMode := .readOnly, fetchMode := .line, holdMode := .asFetched }

/-- The image with its second record naming no type. -/
def secondUnnamed : List Byte :=
  [0x4D, 0x56, 0x1C, 0x47, 2, 0x06, 0x6C] ++ settingsRecord ++ (4 :: windowRecord.tail)

theorem headerGood_images :
    HeaderGood image ∧ HeaderGood (image.take 7) ∧ HeaderGood (image.take 26) ∧ HeaderGood (image.set 6 0) ∧
      HeaderGood twoRecords ∧ HeaderGood secondUnnamed := by
  unfold HeaderGood
  decide +kernel

theorem settingsRecord_laidOut : LaidOutAs settingsRecord settingsOfRecord := by
  simp only [LaidOutAs, settingsOfRecord]
  decide +kernel

theorem windowRecord_laidOut : LaidOutAs windowRecord windowOfRecord := by
  simp only [LaidOutAs, windowOfRecord, LegalWindow]
  decide +kernel

/-- A header cut off, a wrong signature and 65 records announced; a record cut off before its first and at its last
byte; a wrong check; and a second record that names no type behind a first that passes. -/
theorem witness_EndOfLoadWithoutGoodImage :
    loading.powerOn = false ∧ loading.mnt.opState = .loading ∧
      (¬ HeaderGood (image.take 6) ∧ ¬ HeaderGood (image.set 3 0) ∧ ¬ HeaderGood (image.set 4 65)) ∧
      (∀ k ∈ [7, 26], HeaderGood (image.take k) ∧ 1 ≤ announced (image.take k) ∧
        7 + 20 * (1 - 1) ≤ (image.take k).length ∧ (image.take k).length < 7 + 20 * 1) ∧
      (HeaderGood (image.set 6 0) ∧ RecordsWhole (image.set 6 0) ∧ ¬ CheckMatches (image.set 6 0)) ∧
      (HeaderGood secondUnnamed ∧ RecordsWhole secondUnnamed ∧ CheckMatches secondUnnamed ∧
        2 ≤ announced secondUnnamed ∧ ¬ RecordPasses (recordNo 2 secondUnnamed) ∧
        ∀ m, 1 ≤ m → m < 2 → RecordPasses (recordNo m secondUnnamed)) := by
  obtain ⟨-, h7, h26, hc, -, h2⟩ := headerGood_images
  refine ⟨rfl, rfl, by unfold HeaderGood; decide +kernel, fun k hk => ?_,
    ⟨hc, by unfold RecordsWhole; decide +kernel, by unfold CheckMatches; decide +kernel⟩,
    h2, by unfold RecordsWhole; decide +kernel, by unfold CheckMatches; decide +kernel, by decide +kernel,
    ?_, fun m h1 hm => ?_⟩
  · simp only [List.mem_cons, List.not_mem_nil, or_false] at hk
    rcases hk with rfl | rfl
    · exact ⟨h7, by decide +kernel⟩
    · exact ⟨h26, by decide +kernel⟩
  · have h4 : bytesAt 0 1 (recordNo 2 secondUnnamed) = 4 := by decide +kernel
    rintro ⟨r, hr⟩
    cases r <;> simp [LaidOutAs, h4] at hr
  · obtain rfl : m = 1 := by omega
    exact ⟨settingsOfRecord, settingsRecord_laidOut⟩

theorem witness_LoadedImageIsApplied :
    loading.powerOn = false ∧ loading.mnt.opState = .loading ∧ HeaderGood twoRecords ∧
      RecordsWhole twoRecords ∧ CheckMatches twoRecords ∧
      [settingsOfRecord, windowOfRecord].length = announced twoRecords ∧
      ∀ n (h : n < [settingsOfRecord, windowOfRecord].length),
        LaidOutAs (recordNo (n + 1) twoRecords) [settingsOfRecord, windowOfRecord][n] := by
  refine ⟨rfl, rfl, headerGood_images.2.2.2.2.1, by unfold RecordsWhole; decide +kernel,
    by unfold CheckMatches; decide +kernel, by decide +kernel, fun n h => ?_⟩
  obtain rfl | rfl : n = 0 ∨ n = 1 := by simp at h; omega
  · exact settingsRecord_laidOut
  · exact windowRecord_laidOut

/-- Section 11.5 meets every invariant. -/
theorem linkLoss_inv : linkLoss.Inv := by
  unfold State.Inv
  iterate 15 refine ⟨by decide +kernel, ?_⟩
  decide +kernel

theorem witness_LinkDownSettlesAllWorkInFlight :
    linkLoss.Inv ∧ linkLoss.powerOn = false ∧ linkLoss.mli.state ≠ .down ∧ linkIsDown.mli.state = .down :=
  ⟨linkLoss_inv, rfl, by decide, rfl⟩

/-- A state that meets every invariant and whose next step runs. -/
def waitingTick : State := { linkLoss with pending := [.timebaseTick] }

/-- No invariant reads the queue of commands. -/
theorem inv_withPending (s : State) (l : List Instr) (h : s.Inv) : { s with pending := l }.Inv := h

theorem waitingTick_inv : waitingTick.Inv := inv_withPending linkLoss _ linkLoss_inv

theorem waitingTick_steps : ∃ t, step waitingTick = .next t := ⟨_, rfl⟩

theorem witness_StepKeepsCapacities : waitingTick.WithinCapacity ∧ ∃ t, step waitingTick = .next t :=
  ⟨waitingTick_inv.1, waitingTick_steps⟩

theorem witness_StepKeepsLinesExact : waitingTick.LinesExact ∧ ∃ t, step waitingTick = .next t :=
  ⟨waitingTick_inv.2.1, waitingTick_steps⟩

theorem witness_StepKeepsConfigurationLegal :
    waitingTick.WindowsLegal ∧ waitingTick.SettingsLegal ∧ ∃ t, step waitingTick = .next t := by
  obtain ⟨-, -, hw, ht, -⟩ := waitingTick_inv
  exact ⟨hw, ht, waitingTick_steps⟩

theorem witness_StepKeepsHeldCountsExact : waitingTick.HeldCountsExact ∧ ∃ t, step waitingTick = .next t := by
  obtain ⟨-, -, -, -, hh, -⟩ := waitingTick_inv
  exact ⟨hh, waitingTick_steps⟩

theorem witness_StepKeepsAgeOrderAndKeys :
    waitingTick.AgeOrderExact ∧ waitingTick.KeysDistinct ∧ ∃ t, step waitingTick = .next t := by
  obtain ⟨-, -, -, -, -, ha, hk, -⟩ := waitingTick_inv
  exact ⟨ha, hk, waitingTick_steps⟩

theorem witness_StepKeepsEntriesFormed :
    waitingTick.EntriesFormed ∧ waitingTick.FlightsExact ∧ ∃ t, step waitingTick = .next t := by
  obtain ⟨-, -, -, -, -, -, -, he, -, -, hf, -⟩ := waitingTick_inv
  exact ⟨he, hf, waitingTick_steps⟩

theorem witness_StepKeepsReservationsExclusive :
    waitingTick.ReservationsExclusive ∧ ∃ t, step waitingTick = .next t := by
  obtain ⟨-, -, -, -, -, -, -, -, hr, -⟩ := waitingTick_inv
  exact ⟨hr, waitingTick_steps⟩

theorem witness_StepKeepsQueueOrdered : waitingTick.QueueOrdered ∧ ∃ t, step waitingTick = .next t := by
  obtain ⟨-, -, -, -, -, -, -, -, -, hq, -⟩ := waitingTick_inv
  exact ⟨hq, waitingTick_steps⟩

/-- The invariants of the outstanding work, and of the counts that follow it. -/
theorem waitingTick_outstanding :
    waitingTick.FlightsExact ∧ waitingTick.TagsExact ∧ waitingTick.LinkSettled ∧
      waitingTick.SyncCountsExact := by
  obtain ⟨-, -, -, -, -, -, -, -, -, -, hf, ht, hl, hs, -⟩ := waitingTick_inv
  exact ⟨hf, ht, hl, hs⟩

theorem witness_StepKeepsOutstandingWorkExact :
    waitingTick.TagsExact ∧ waitingTick.FlightsExact ∧ waitingTick.LinkSettled ∧
      ∃ t, step waitingTick = .next t :=
  ⟨waitingTick_outstanding.2.1, waitingTick_outstanding.1, waitingTick_outstanding.2.2.1, waitingTick_steps⟩

theorem witness_StepKeepsSyncCountsExact :
    waitingTick.SyncCountsExact ∧ waitingTick.TagsExact ∧ ∃ t, step waitingTick = .next t :=
  ⟨waitingTick_outstanding.2.2.2, waitingTick_outstanding.2.1, waitingTick_steps⟩

theorem witness_StepKeepsQuiescedIdle : waitingTick.Inv ∧ ∃ t, step waitingTick = .next t :=
  ⟨waitingTick_inv, waitingTick_steps⟩

end Sys2Proof.Tests
end

/-! # Proofs: the Upstream Bus transaction

The bridge between the manual's vocabulary for a request (`Sys2Proof.Claims`) and the model's Boolean tests,
then what the decode decides under each premise, then the statements about the decode. -/

namespace Sys2Proof.UpstreamProofs

open Sys2Proof Sys2Proof.Machine Sys2Proof.Claims

/-! ## The tests of the decode in the manual's terms -/

theorem requestCheckPasses_iff {q : UpRequest} : requestCheckPasses q = true ↔ CheckGood q := by
  simp [requestCheckPasses, CheckGood]

theorem dataCheckPasses_iff {q : UpRequest} : dataCheckPasses q = true ↔ DataGood q := by
  simp [dataCheckPasses, DataGood]

theorem upOffset_toNat (a : UpAddr) : (upOffset a).toNat = a.toNat % 64 := by
  simp [upOffset]

theorem badExtent_iff {q : UpRequest} :
    badExtent q = true ↔ q.length = 0 ∨ 64 < q.length ∨ 64 < q.address.toNat % 64 + q.length := by
  simp [badExtent, crossesLine, upOffset_toNat, or_assoc]

/-- R8: the extent is tested for a READ and a WRITE alone, and only an illegal command is malformed by itself. -/
theorem malformed_iff {q : UpRequest} : malformed q = true ↔ IllFormed q := by
  unfold malformed IllFormed
  cases q.command with
  | read => simp [badExtent_iff]
  | write => simp [badExtent_iff]
  | sync => simp
  | illegal code => simp

theorem contains_iff_inWindow {w : Window} {a : UpAddr} : w.contains a = true ↔ InWindow w a :=
  Window.contains_iff

theorem claim_eq_none_iff {s : State} {a : UpAddr} :
    s.wt.claim a = none ↔ ∀ n : WindowNo, ¬ InWindow s.wt.windows[n] a := by
  simp only [WindowTable.claim_eq_none, ← contains_iff_inWindow, Bool.not_eq_true]

theorem claim_eq_some_iff {s : State} {a : UpAddr} {n : WindowNo} :
    s.wt.claim a = some n ↔ ClaimsAddress s n a := by
  simp only [WindowTable.claim_eq_some, ClaimsAddress, ← contains_iff_inWindow, Bool.not_eq_true]

theorem admits_iff_inMask {w : Window} {r : RequesterNo} : w.admits r = true ↔ InMask w r := Iff.rfl

theorem turnsAway_iff {s : State} :
    s.turnsAway = true ↔ s.mnt.opState = .quiescing ∨ s.mnt.opState = .quiesced := by
  simp [State.turnsAway]

/-! ## The decision and its effect -/

/-- What the decode decides of a request, its two check tests taken as they come out. -/
def decisionOn (q : UpRequest) (s : State) : Decision :=
  decode (requestCheckPasses q) (dataCheckPasses q) q s

theorem exec_upstreamRequest (q : UpRequest) (s : State) :
    exec (.upstreamRequest q) s = s.request (requestCheckPasses q) (dataCheckPasses q) q := rfl

/-- A decision that answers changes the Fault Unit, by its record, and the response alone. -/
theorem exec_of_answer {q : UpRequest} {s : State} {a : Response} {record : Option FaultRecord}
    (h : decisionOn q s = .answer a record) :
    exec (.upstreamRequest q) s = .next
      { s with flt := s.flt.appendAll record.toList, out := { s.out with response := some a } } := by
  unfold decisionOn at h
  rw [exec_upstreamRequest, State.request, h]
  rfl

theorem exec_of_post {q : UpRequest} {s : State} {w : PostedWrite} (h : decisionOn q s = .post w) :
    exec (.upstreamRequest q) s = .next (s.accept w) := by
  unfold decisionOn at h
  rw [exec_upstreamRequest, State.request, h]

/-! ## The first four steps -/

theorem decisionOn_of_loading {q : UpRequest} {s : State} (h : s.mnt.opState = .loading) :
    decisionOn q s = .answer .retry none := by
  simp [decisionOn, decode, h]

section FirstSteps

variable {q : UpRequest} {s : State} (hload : s.mnt.opState ≠ .loading)
include hload

theorem decisionOn_of_badCheck (hcheck : ¬ CheckGood q) :
    decisionOn q s = .answer (.fault .check) (some (decodeRecord .reqCheck none q s)) := by
  rw [← requestCheckPasses_iff] at hcheck
  simp [decisionOn, decode, hload, hcheck]

theorem decisionOn_of_illFormed (hcheck : CheckGood q) (hform : IllFormed q) :
    decisionOn q s = .answer (.fault .format) (some (decodeRecord .reqFormat none q s)) := by
  rw [← requestCheckPasses_iff] at hcheck
  rw [← malformed_iff] at hform
  simp [decisionOn, decode, hload, hcheck, hform]

theorem decisionOn_of_disabled (hcheck : CheckGood q) (hform : ¬ IllFormed q)
    (hoff : s.rqt.requesters[q.requester].enabled = false) :
    decisionOn q s = .answer (.fault .denied) (some (decodeRecord .denied none q s)) := by
  rw [← requestCheckPasses_iff] at hcheck
  rw [← malformed_iff] at hform
  simp only [decisionOn, decode, hload, hcheck, hform, hoff, Bool.not_true, Bool.not_false,
    Bool.false_eq_true, if_true, if_false]

end FirstSteps

/-! ## From the window lookup on -/

/-- A READ or WRITE that passes the first four steps is decided by the window lookup. -/
theorem decisionOn_of_decoded {q : UpRequest} {s : State} (hdec : Decoded q s)
    (hcmd : q.command = .read ∨ q.command = .write) :
    decisionOn q s =
      (s.wt.claim q.address).elim (missDecision q s)
        (fun n => claimedDecision (dataCheckPasses q) n q s) := by
  obtain ⟨hload, hcheck, hform, hon⟩ := hdec
  rw [← requestCheckPasses_iff] at hcheck
  rw [← malformed_iff] at hform
  have hsync : q.command ≠ .sync := by
    rcases hcmd with h | h <;> simp [h]
  simp only [decisionOn, decode, hload, hcheck, hform, hon, hsync, Bool.not_true,
    Bool.false_eq_true, if_false]
  cases s.wt.claim q.address <;> rfl

theorem decisionOn_of_unclaimed {q : UpRequest} {s : State} (hdec : Decoded q s)
    (hcmd : q.command = .read ∨ q.command = .write)
    (hmiss : ∀ n : WindowNo, ¬ InWindow s.wt.windows[n] q.address) :
    decisionOn q s = missDecision q s := by
  rw [decisionOn_of_decoded hdec hcmd, claim_eq_none_iff.2 hmiss, Option.elim_none]

theorem decisionOn_of_claimedBy {q : UpRequest} {s : State} {n : WindowNo} (h : ClaimedBy n q s) :
    decisionOn q s = claimedDecision (dataCheckPasses q) n q s := by
  obtain ⟨hdec, hcmd, hclaim⟩ := h
  rw [decisionOn_of_decoded hdec hcmd, claim_eq_some_iff.2 hclaim, Option.elim_some]

/-- R12: the answer is the miss policy's, and the record hangs on miss logging alone. -/
theorem missDecision_eq (q : UpRequest) (s : State) :
    missDecision q s =
      .answer
        (if s.wt.missPolicy = .fault then .fault .unclaimed
         else if q.command = .write then .done
         else dataResponse (List.replicate q.length 0xFF#8))
        (if s.wt.missLogging then some (decodeRecord .unclaimed none q s) else none) := by
  unfold missDecision
  cases s.wt.missPolicy with
  | fault => rfl
  | fill => by_cases hw : q.command = .write <;> simp [hw]

/-- R13–R16: a WRITE with good data through a POSTED window that admits its requester meets the queue's tests. -/
theorem decisionOn_of_posted {q : UpRequest} {s : State} {n : WindowNo} (hclaim : ClaimedBy n q s)
    (hmask : InMask s.wt.windows[n] q.requester) (hwrite : q.command = .write)
    (hmode : s.wt.windows[n].writeMode = .posted) (hdata : DataGood q) :
    decisionOn q s = postedDecision s.wt.windows[n] q s := by
  rw [← admits_iff_inMask] at hmask
  rw [← dataCheckPasses_iff] at hdata
  rw [decisionOn_of_claimedBy hclaim]
  simp only [claimedDecision, writeDecision, hmask, hwrite, hmode, hdata, if_true]

theorem postedDecision_retry {w : Window} {q : UpRequest} {s : State}
    (h : s.mnt.opState = .quiescing ∨ s.mnt.opState = .quiesced ∨ 32 ≤ s.pwq.length) :
    postedDecision w q s = .answer .retry none := by
  rw [← or_assoc, ← turnsAway_iff] at h
  unfold postedDecision
  rcases h with haway | hfull
  · rw [if_pos haway]
  · simp only [hfull, if_true, ite_self]

theorem postedDecision_post {w : Window} {q : UpRequest} {s : State} (hactive : s.mnt.opState = .active)
    (hroom : s.pwq.length < 32) : postedDecision w q s = .post (postedWrite w q) := by
  have haway : ¬ s.turnsAway = true := by simp [turnsAway_iff, hactive]
  rw [postedDecision, if_neg haway, if_neg (Nat.not_le.2 hroom)]

theorem postedWrite_eq (w : Window) (q : UpRequest) :
    postedWrite w q =
      { requester := q.requester, address := downOf w q.address, length := q.length, data := q.data,
        state := .queued } := rfl

/-- R16, R149: what acceptance changes. -/
theorem accept_eq (w : PostedWrite) (s : State) :
    s.accept w =
      { s with
        pwq := s.pwq ++ [w]
        dt := (s.freshen (w.address.extractLsb' 6 38)).dt
        flt := (s.freshen (w.address.extractLsb' 6 38)).flt
        out := { s.out with response := some .done } } := by
  simp [State.accept, State.answer, downLine]

/-! ## The statements -/

/-- Settles O2: each clause is the decision of one of the first four steps, the earlier ones passed. -/
theorem decodeRefusesBeforeTheWindows : Obligations.DecodeRefusesBeforeTheWindows := by
  intro q s
  refine ⟨fun hload => exec_of_answer (decisionOn_of_loading hload),
    fun hload => ⟨fun hcheck => ?_, fun hcheck hform => ?_, fun hcheck hform hoff => ?_⟩⟩
  · exact exec_of_answer (decisionOn_of_badCheck hload hcheck)
  · exact exec_of_answer (decisionOn_of_illFormed hload hcheck hform)
  · exact exec_of_answer (decisionOn_of_disabled hload hcheck hform hoff)

/-- Settles O3: with no claiming window the decode takes the miss decision, whose record is there or not as miss
logging stands. -/
theorem unclaimedRequestMeetsMissPolicy : Obligations.UnclaimedRequestMeetsMissPolicy := by
  refine ⟨rfl, rfl, fun q s hdec hcmd hmiss => ?_⟩
  have hdecision := (decisionOn_of_unclaimed hdec hcmd hmiss).trans (missDecision_eq q s)
  rw [exec_of_answer hdecision]
  cases s.wt.missLogging <;> rfl

/-- Settles O6: the queue's tests decide, and the acceptance is the ordering point at which the freshness rules
act, on the Deferral Table and the Fault Unit alone. -/
theorem postedWriteAcceptedOrRetried : Obligations.PostedWriteAcceptedOrRetried := by
  intro q s n hclaim hmask hwrite hmode hdata
  have hposted := decisionOn_of_posted hclaim hmask hwrite hmode hdata
  constructor
  · intro hturned
    exact exec_of_answer (hposted.trans (postedDecision_retry hturned))
  · intro hactive hroom
    have hexec := exec_of_post (hposted.trans (postedDecision_post hactive hroom))
    rw [accept_eq, postedWrite_eq] at hexec
    exact ⟨_, hexec, rfl, rfl, rfl, rfl, rfl⟩

end Sys2Proof.UpstreamProofs

/-! # Proofs: WINDOW_COMMIT and the withdrawal of entries

The port's tests in the manual's terms, then what a withdrawal, an offer and the change to QUIESCED do in the
vocabulary of `Sys2Proof.Claims`, for any set of entries, then the accepted commit. -/

namespace Sys2Proof.WindowCommitProofs

open Sys2Proof Sys2Proof.Machine Sys2Proof.Claims

/-! ## The tests of the port -/

/-- R174: the sum of the base address and the three straps does not wrap in seven bits. -/
theorem portTakes_iff_addressed {d : DeviceAddr} {s : State} : s.portTakes d = true ↔ Addressed d s := by
  have hsum : s.mnt.deviceAddress.toNat = 0x58 + s.mnt.straps.toNat := by
    unfold Maintenance.deviceAddress
    bv_omega
  rw [State.portTakes_iff, Addressed, ← hsum, BitVec.toNat_inj]

theorem legal_iff_legalWindow {w : Window} : w.legal = true ↔ LegalWindow w := by
  simp [Window.legal, LegalWindow, Nat.dvd_iff_mod_eq_zero, and_assoc]

/-! ## Withdrawal -/

theorem down_eq_downOfEntry (e : Entry) : e.down = downOfEntry e := by
  unfold Entry.down downOfEntry
  cases e.line <;> cases e.span <;> rfl

theorem unreportedRecord_eq (i : EntryNo) (st : Option Status) (s : State) :
    s.unreportedRecord i st = unreported i st s := by
  simp only [State.unreportedRecord, State.record, unreported, down_eq_downOfEntry]

theorem withdrawn_eq_withdrawnAs (e : Entry) : e.withdrawn = withdrawnAs e := by
  unfold Entry.withdrawn withdrawnAs
  cases e.state <;> rfl

theorem withdrawalFrees_iff {e : Entry} :
    e.withdrawalFrees = true ↔ e.state = .waiting ∨ e.state = .held := by
  simp [Entry.withdrawalFrees]

theorem heldNpWrite_iff {e : Entry} :
    e.heldNpWrite = true ↔ e.state = .held ∧ e.kind = some .npWrite := by
  simp [Entry.heldNpWrite]

theorem live_iff_states {e : Entry} :
    e.live = true ↔ e.state = .waiting ∨ e.state = .issued ∨ e.state = .held := by
  unfold Entry.live
  cases e.state <;> simp

/-- Two spellings of one set of entry numbers list it alike. -/
theorem entriesWhere_eq_ascending {f : Entry → Bool} {es : Vector Entry 24} {p : EntryNo → Prop}
    [DecidablePred p] (h : ∀ j : EntryNo, f es[j] = true ↔ p j) : entriesWhere f es = ascending p :=
  List.filter_congr fun j _ => by rw [Bool.eq_iff_iff, h j, decide_eq_true_iff]

section Withdrawal

variable {p : Entry → Bool} {P : EntryNo → Prop} [DecidablePred P] {s : State}
  (hset : ∀ j : EntryNo, p s.dt.entries[j] = true ↔ P j)
include hset

theorem withdrawalFreed_eq_ascending :
    s.withdrawalFreed p =
      ascending fun j => P j ∧ (s.dt.entries[j].state = .waiting ∨ s.dt.entries[j].state = .held) :=
  entriesWhere_eq_ascending fun j => by rw [Bool.and_eq_true, hset, withdrawalFrees_iff]

theorem withdrawalRecords_eq :
    s.withdrawalRecords p =
      (ascending fun j => P j ∧ s.dt.entries[j].state = .held ∧ s.dt.entries[j].kind = some .npWrite).map
        fun j => unreported j s.dt.entries[j].result s := by
  have hlist := entriesWhere_eq_ascending (f := fun e => p e && e.heldNpWrite) (es := s.dt.entries)
    (p := fun j => P j ∧ s.dt.entries[j].state = .held ∧ s.dt.entries[j].kind = some .npWrite)
    fun j => by rw [Bool.and_eq_true, hset, heldNpWrite_iff]
  simp only [State.withdrawalRecords, hlist, unreportedRecord_eq]

/-- R60: an event that withdraws a set of entries, and then leaves the age order and the Fault Unit as they
are, leaves `Withdrawn` behind. -/
theorem withdrawn_of_withdraw {t : State} (hage : t.dt.age = (s.withdraw p).dt.age)
    (hflt : t.flt = (s.withdraw p).flt) : Withdrawn P (s.withdraw p).dt.entries s t := by
  refine ⟨fun j => ?_, ?_, ?_⟩
  · simp only [State.withdraw_get, hset, withdrawn_eq_withdrawnAs]
  · rw [hage, State.withdraw_age, withdrawalFreed_eq_ascending hset]
    simp [ascending]
  · rw [hflt, State.withdraw_flt, withdrawalRecords_eq hset]

/-- R41: the members of the set that a requester's held count counts. -/
theorem countP_live_eq_liveOf (r : RequesterNo) :
    (entriesWhere p s.dt.entries).countP
        (fun i => s.dt.entries[i].live && s.dt.entries[i].requester == some r) = liveOf P r s := by
  rw [entriesWhere, List.countP_filter, liveOf]
  refine List.countP_congr fun j _ => ?_
  simp only [Bool.and_eq_true, decide_eq_true_eq, beq_iff_eq, hset, live_iff_states]
  tauto

theorem withdraw_requester (r : RequesterNo) :
    (s.withdraw p).rqt.requesters[r] =
      { s.rqt.requesters[r] with held := s.rqt.requesters[r].held - liveOf P r s } := by
  simp only [State.withdraw, RequesterTable.lowerHeld_get, countP_live_eq_liveOf hset]

end Withdrawal

theorem withdraw_staging (p : Entry → Bool) (s : State) :
    (s.withdraw p).rqt.staging = s.rqt.staging := by
  simp only [State.withdraw, RequesterTable.lowerHeld_staging]

/-! ## The change to QUIESCED -/

/-- R179: what the change to QUIESCED leaves of the Maintenance Port, seen from the state before the event. -/
theorem settleQuiesce_mnt {s u : State} (hmnt : u.mnt = s.mnt) :
    u.settleQuiesce.mnt = { s.mnt with opState := opAfter s u.settleQuiesce } := by
  unfold opAfter
  rw [State.settleQuiesce_dt, State.settleQuiesce_pwq, ← hmnt]
  rcases u.settleQuiesce_cases with ⟨hop, hfree, hqueue, heq⟩ | ⟨hnot, heq⟩
  · rw [heq, if_pos ⟨hop, State.allFree_iff.1 hfree, hqueue⟩]
  · rw [State.allFree_iff] at hnot
    rw [heq, if_neg hnot]

/-! ## The accepted commit -/

theorem exec_windowCommit (d : DeviceAddr) (a : Byte) (s : State) :
    exec (.windowCommit d a) s =
      .next (if s.portTakes d then s.takeCommand 1 (windowCommitAct a) else s) := rfl

/-- The act of an accepted commit, behind the LOADING test and the two tests of R28. -/
theorem exec_windowCommit_accepted {d : DeviceAddr} {a : Byte} {s : State} {n : WindowNo}
    (hcmd : Commanded d s) (harg : a.toNat = n.val)
    (hlegal : s.wt.staging.enabled = false ∨ LegalWindow s.wt.staging) :
    exec (.windowCommit d a) s = .next ((s.windowCommitted n).cmdStatus 1 .ok) := by
  obtain ⟨haddressed, hloading⟩ := hcmd
  have htests : (s.wt.staging.enabled && !s.wt.staging.legal) = false := by
    rcases hlegal with hoff | hlegal
    · simp [hoff]
    · simp [legal_iff_legalWindow.2 hlegal]
  have hact : windowCommitAct a s = (.ok, s.windowCommitted n) := by
    simp [windowCommitAct, numbered_eq_some.2 harg, htests]
  rw [exec_windowCommit, if_pos (portTakes_iff_addressed.2 haddressed), State.takeCommand_taken _ _ hloading, hact]

/-- R30: the set that a commit of window n revokes. -/
def createdUnder (n : WindowNo) (e : Entry) : Bool := e.window == some n

theorem createdUnder_iff {n : WindowNo} {e : Entry} : createdUnder n e = true ↔ e.window = some n :=
  beq_iff_eq

/-- The state of a commit with the window replaced and the set revoked, before the freed entries are offered. -/
def replacedAndRevoked (n : WindowNo) (s : State) : State :=
  { s.withdraw (createdUnder n) with wt := { s.wt with windows := s.wt.windows.set n s.wt.staging } }

/-- R30, R42, R179: the freed entries are offered and the part may become QUIESCED. -/
theorem windowCommitted_eq (n : WindowNo) (s : State) :
    s.windowCommitted n =
      ((replacedAndRevoked n s).offer (s.withdrawalFreed (createdUnder n))).settleQuiesce := rfl

section Committed

variable (n : WindowNo) (s : State)

/-- A commit touches the tables, the Waiting List, the Fault Unit and the Maintenance Port alone. -/
theorem windowCommitted_frame :
    s.windowCommitted n =
      { s with
        wt := (s.windowCommitted n).wt, rqt := (s.windowCommitted n).rqt
        waiting := (s.windowCommitted n).waiting, dt := (s.windowCommitted n).dt
        flt := (s.windowCommitted n).flt, mnt := (s.windowCommitted n).mnt } := by
  rw [windowCommitted_eq, State.settleQuiesce_eq]
  simp [replacedAndRevoked, State.offer, State.withdraw]

/-- R29: the window takes the staging record whole. -/
theorem windowCommitted_wt :
    (s.windowCommitted n).wt = { s.wt with windows := s.wt.windows.set n s.wt.staging } := by
  simp [windowCommitted_eq, replacedAndRevoked]

theorem windowCommitted_rqt : (s.windowCommitted n).rqt = (s.withdraw (createdUnder n)).rqt := by
  simp [windowCommitted_eq, replacedAndRevoked]

theorem windowCommitted_flt : (s.windowCommitted n).flt = (s.withdraw (createdUnder n)).flt := by
  simp [windowCommitted_eq, replacedAndRevoked]

theorem windowCommitted_age : (s.windowCommitted n).dt.age = (s.withdraw (createdUnder n)).dt.age := by
  simp [windowCommitted_eq, replacedAndRevoked]

/-- R30, R80: the Waiting List and the entries are those of the offer that follows the withdrawal. -/
theorem windowCommitted_offers :
    ((s.windowCommitted n).waiting, (s.windowCommitted n).dt.entries) =
      offerAll s.mnt.settings.reservationTime.toNat (s.withdrawalFreed (createdUnder n))
        (s.waiting, (s.withdraw (createdUnder n)).dt.entries) := by
  simp [windowCommitted_eq, replacedAndRevoked]

theorem windowCommitted_mnt :
    (s.windowCommitted n).mnt = { s.mnt with opState := opAfter s (s.windowCommitted n) } := by
  rw [windowCommitted_eq]
  exact settleQuiesce_mnt (by simp [replacedAndRevoked])

end Committed

/-- Settles O33: the commit is a withdrawal of the entries created under the window, an offer of those it frees
and the change to QUIESCED, and each clause is what one of the three leaves. -/
theorem windowCommitReplacesAndRevokes : Obligations.WindowCommitReplacesAndRevokes := by
  intro d a s n hcmd harg hlegal
  have hset : ∀ j : EntryNo, createdUnder n s.dt.entries[j] = true ↔ s.dt.entries[j].window = some n :=
    fun _ => createdUnder_iff
  have hwithdrawn := withdrawn_of_withdraw hset (windowCommitted_age n s) (windowCommitted_flt n s)
  have hoffers := windowCommitted_offers n s
  rw [withdrawalFreed_eq_ascending hset] at hoffers
  refine ⟨_, exec_windowCommit_accepted hcmd harg hlegal, windowCommitted_wt n s,
    ⟨_, hwithdrawn, hoffers⟩, fun r => ?_, ?_, ?_, ?_⟩
  · rw [State.cmdStatus_rqt, windowCommitted_rqt, withdraw_requester hset]
  · rw [State.cmdStatus_rqt, windowCommitted_rqt, withdraw_staging]
  · exact congrArg (fun m => { m with cmdOutcome := .ok, cmdCode := 1 }) (windowCommitted_mnt n s)
  · exact congrArg (State.cmdStatus 1 .ok) (windowCommitted_frame n s)

end Sys2Proof.WindowCommitProofs

/-! # Proofs: a request that meets an entry of its own

What the decode hands to the Deferral Table, the entry that the search by match key then finds, and the repeat
that finds it unanswered. -/

namespace Sys2Proof.RepeatProofs

open Sys2Proof Sys2Proof.Machine Sys2Proof.Claims Sys2Proof.UpstreamProofs Sys2Proof.WindowCommitProofs

/-! ## The hand-over -/

theorem readKey_eq_keyOfRead (w : Window) (q : UpRequest) : readKey w q = keyOfRead w q := by
  unfold readKey keyOfRead
  cases w.fetchMode <;> rfl

/-- R23: a LINE window fetches the whole line, an EXACT one the request's own bytes. -/
theorem readSpan_eq (w : Window) (q : UpRequest) :
    readSpan w q =
      if w.fetchMode = .line then { offset := 0, length := 64 }
      else { offset := q.address.extractLsb' 0 6, length := q.length } := by
  unfold readSpan
  cases w.fetchMode <;> rfl

/-- R9, R10: a SYNC that passes the first four steps meets no window. -/
theorem decisionOn_of_sync {q : UpRequest} {s : State} (hdec : Decoded q s) (hsync : q.command = .sync) :
    decisionOn q s = .sync := by
  obtain ⟨hload, hcheck, hform, hon⟩ := hdec
  rw [← requestCheckPasses_iff] at hcheck
  rw [← malformed_iff] at hform
  simp only [decisionOn, decode, hload, hcheck, hform, hon, hsync, Bool.not_true, Bool.false_eq_true,
    if_true, if_false]

/-- R17: a READ, or a WRITE with good data through a NONPOSTED window, is handed over with its entry. -/
theorem decisionOn_of_requested {q : UpRequest} {s : State} {n : WindowNo} {e : Entry}
    (hclaim : ClaimedBy n q s) (hmask : InMask s.wt.windows[n] q.requester)
    (hreq : Requested n s.wt.windows[n] q e) : decisionOn q s = .handOver e := by
  rw [← admits_iff_inMask] at hmask
  rw [decisionOn_of_claimedBy hclaim, claimedDecision, if_pos hmask]
  rcases hreq with ⟨hread, rfl⟩ | ⟨hwrite, hmode, hdata, rfl⟩
  · rw [if_neg (by simp [hread]), ← readKey_eq_keyOfRead, ← readSpan_eq]
    rfl
  · rw [← dataCheckPasses_iff] at hdata
    simp only [hwrite, if_true, writeDecision, hmode, hdata]
    rfl

/-! ## The search by match key -/

/-- R43, R44: with the keys of live entries distinct, the search finds the live entry that bears the key. -/
theorem matching_of_live {s : State} {k : MatchKey} {i : EntryNo} (hkeys : s.KeysDistinct)
    (hlive : s.dt.entries[i].live = true) (hkey : s.dt.entries[i].key = some k) :
    s.dt.matching k = some i := by
  cases hfound : s.dt.matching k with
  | none => exact absurd hkey (DeferralTable.matching_none.1 hfound i hlive)
  | some j =>
    obtain ⟨hlive', hkey'⟩ := DeferralTable.matching_some hfound
    rw [hkeys j i hlive' hlive (hkey'.trans hkey.symm)]

/-- Every entry that a request would create bears a key. -/
theorem key_of_requested {n : WindowNo} {w : Window} {q : UpRequest} {e : Entry}
    (h : Requested n w q e) : ∃ k, e.key = some k := by
  rcases h with ⟨-, rfl⟩ | ⟨-, -, -, rfl⟩
  · exact ⟨_, rfl⟩
  · exact ⟨_, rfl⟩

/-- R44: a request handed over meets the live entry that bears its key, whichever path it takes. -/
theorem exec_of_match {q : UpRequest} {s : State} {e : Entry} {i : EntryNo} (hover : HandedOver q s e)
    (hkeys : s.KeysDistinct) (hlive : s.dt.entries[i].live = true)
    (hkey : s.dt.entries[i].key = e.key) : exec (.upstreamRequest q) s = .next (s.matched i q) := by
  rcases hover with ⟨hdec, hsync, rfl⟩ | ⟨n, hclaim, hmask, hreq⟩
  · have hdecision := decisionOn_of_sync hdec hsync
    unfold decisionOn at hdecision
    simp only [exec_upstreamRequest, State.request, hdecision, State.syncRequest,
      matching_of_live hkeys hlive hkey]
  · obtain ⟨k, hk⟩ := key_of_requested hreq
    have hdecision := decisionOn_of_requested hclaim hmask hreq
    unfold decisionOn at hdecision
    simp only [exec_upstreamRequest, State.request, hdecision, State.handOver, hk, Option.bind_some,
      matching_of_live hkeys hlive (hkey.trans hk)]

/-- R45: an entry that is not HELD has no answer to deliver. -/
theorem matched_of_not_held {s : State} {i : EntryNo} (q : UpRequest)
    (h : s.dt.entries[i].state ≠ .held) : s.matched i q = s.answer .retry := if_neg h

/-! ## The statement -/

/-- Settles O8: the search finds the entry, which is live and not HELD. -/
theorem repeatOfUnansweredEntryRetries : Obligations.RepeatOfUnansweredEntryRetries := by
  intro q s e i hover hkeys hstate hkey
  have hlive : s.dt.entries[i].live = true := live_iff_states.2 (hstate.imp_right .inl)
  have hheld : s.dt.entries[i].state ≠ .held := fun hheld => by
    rw [hheld] at hstate
    exact absurd hstate (by decide)
  rw [exec_of_match hover hkeys hlive hkey, matched_of_not_held q hheld]
  rfl

end Sys2Proof.RepeatProofs

/-! # Proofs: the commands that clear counters, view an entry and reset the path

A command of the port, refused in LOADING or taken, then what the act of each of the three commands leaves. -/

namespace Sys2Proof.CommandProofs

open Sys2Proof Sys2Proof.Machine Sys2Proof.Claims Sys2Proof.WindowCommitProofs

/-! ## A command taken at the port -/

section Port

variable {d : DeviceAddr} {s : State} (code : Byte) {act : State → CmdOutcome × State}

/-- R176: a command that meets a LOADING part is refused with STATE. -/
theorem portCommand_loading (haddressed : Addressed d s) (hloading : s.mnt.opState = .loading) :
    (if s.portTakes d then s.takeCommand code act else s) = withStatus code .state s := by
  rw [if_pos (portTakes_iff_addressed.2 haddressed), State.takeCommand_loading _ _ hloading]
  rfl

/-- R176: past the LOADING test the act decides, and its outcome stands in CMD_STATUS. -/
theorem portCommand_taken {o : CmdOutcome} {t : State} (haddressed : Addressed d s)
    (hloading : s.mnt.opState ≠ .loading) (hact : act s = (o, t)) :
    (if s.portTakes d then s.takeCommand code act else s) = withStatus code o t := by
  rw [if_pos (portTakes_iff_addressed.2 haddressed), State.takeCommand_taken _ _ hloading, hact]
  rfl

end Port

theorem exec_counterClear (d : DeviceAddr) (a : Byte) (s : State) :
    exec (.counterClear d a) s =
      .next (if s.portTakes d then s.takeCommand 5 (counterClearAct a) else s) := rfl

theorem exec_entryView (d : DeviceAddr) (a : Byte) (s : State) :
    exec (.entryView d a) s =
      .next (if s.portTakes d then s.takeCommand 6 (entryViewAct a) else s) := rfl

theorem exec_pathReset (d : DeviceAddr) (a : Byte) (s : State) :
    exec (.pathReset d a) s = .next (if s.portTakes d then s.takeCommand 9 pathResetAct else s) := rfl

/-- R179: the change to QUIESCED touches the Maintenance Port alone. -/
theorem settleQuiesce_frame (u : State) : u.settleQuiesce = { u with mnt := u.settleQuiesce.mnt } := by
  rcases u.settleQuiesce_cases with ⟨-, -, -, h⟩ | ⟨-, h⟩ <;> rw [h]

/-! ## COUNTER_CLEAR and ENTRY_VIEW -/

/-- R71: both counters of one requester become 0. -/
def countersCleared (r : RequesterNo) (s : State) : State :=
  { s with rqt := s.rqt.update r fun x => { x with refusals := 0, discards := 0 } }

theorem counterClearAct_accepted {a : Byte} {r : RequesterNo} (s : State) (h : a.toNat = r.val) :
    counterClearAct a s = (.ok, countersCleared r s) := by
  rw [counterClearAct, numbered_eq_some.2 h]
  rfl

theorem countersCleared_requesterChanged (r : RequesterNo) (s : State) :
    RequesterChanged r (fun x => { x with refusals := 0, discards := 0 }) s (countersCleared r s) :=
  ⟨RequesterTable.update_staging .., fun q => RequesterTable.update_get r q _ s.rqt⟩

theorem entryViewAct_badArg {a : Byte} (s : State) (h : 24 ≤ a.toNat) :
    entryViewAct a s = (.badArg, s) := by
  rw [entryViewAct, numbered_eq_none.2 h]

theorem entryViewAct_accepted {a : Byte} {i : EntryNo} (s : State) (h : a.toNat = i.val) :
    entryViewAct a s = (.ok, { s with mnt := { s.mnt with snapshot := s.dt.capture i } }) := by
  rw [entryViewAct, numbered_eq_some.2 h]

theorem agePosition_of_notMem {i : EntryNo} {dt : DeferralTable} (h : i ∉ dt.age) :
    dt.agePosition i = 0 := if_neg h

/-- R69: the position counts from 1 at the head of the age order. -/
theorem agePosition_of_split {i : EntryNo} {dt : DeferralTable} {pre post : List EntryNo}
    (hage : dt.age = pre ++ i :: post) (hpre : i ∉ pre) : dt.agePosition i = pre.length + 1 := by
  rw [DeferralTable.agePosition, hage, if_pos (by simp), List.idxOf_append_of_notMem hpre,
    List.idxOf_cons_self]

/-- Settles O37: the port refuses or takes the command, and the act of each is an update of one block. -/
theorem counterClearAndEntryView : Obligations.CounterClearAndEntryView := by
  intro d a s haddressed
  refine ⟨fun hloading => ?_, fun hloading hrange => ?_,
    fun hloading => ⟨fun r hr => ?_, fun i hi => ?_⟩⟩
  · rw [exec_entryView, portCommand_loading 6 haddressed hloading]
  · rw [exec_entryView, portCommand_taken 6 haddressed hloading (entryViewAct_badArg s hrange)]
  · rw [exec_counterClear, portCommand_taken 5 haddressed hloading (counterClearAct_accepted s hr)]
    exact ⟨_, rfl, countersCleared_requesterChanged r s, rfl⟩
  · rw [exec_entryView, portCommand_taken 6 haddressed hloading (entryViewAct_accepted s hi)]
    exact ⟨_, rfl, rfl, rfl, agePosition_of_notMem, fun _ _ => agePosition_of_split, rfl⟩

/-! ## PATH_RESET -/

/-- The path cleared and its records made, before the part may become QUIESCED (R182). -/
def pathCleared (s : State) : State :=
  { s.log s.pathResetRecords with
    dt := { entries := Vector.replicate 24 Entry.free, age := [] }
    pwq := []
    waiting := []
    rqt := { s.rqt with requesters := mapTable (fun _ q => { q with held := 0 }) s.rqt.requesters }
    streak := 0
    mli :=
      { state := if s.mli.state = .up then .resetting else s.mli.state
        linkReset := s.mli.linkReset || s.mli.state == .up
        credits := 0
        tags := Vector.replicate 32 Tag.free
        flights := [] } }

theorem pathResetAct_eq (s : State) : pathResetAct s = (.ok, (pathCleared s).settleQuiesce) := rfl

theorem pathResetReports_iff {e : Entry} :
    e.pathResetReports = true ↔
      e.kind = some .npWrite ∧ (e.state = .held ∨ e.state = .issued ∨ e.state = .orphaned) := by
  simp [Entry.pathResetReports, or_assoc]

/-- R67, R96, R164: the records of the freed NP_WRITEs, ascending, and then that of the queue. -/
theorem pathResetRecords_eq (s : State) :
    s.pathResetRecords =
      (ascending (fun j => s.dt.entries[j].kind = some .npWrite ∧
            (s.dt.entries[j].state = .held ∨ s.dt.entries[j].state = .issued ∨
              s.dt.entries[j].state = .orphaned))).map
          (fun j => unreported j
            (if s.dt.entries[j].state = .held then s.dt.entries[j].result else none) s)
        ++ (if s.pwq = [] then []
            else [{ kind := .pathResetDiscard, time := s.ticks, count := some s.pwq.length }]) := by
  rw [State.pathResetRecords, entriesWhere_eq_ascending fun j => pathResetReports_iff]
  simp only [unreportedRecord_eq]
  rfl

theorem pathCleared_entry (s : State) (i : EntryNo) : (pathCleared s).dt.entries[i] = Entry.free := by
  simp [pathCleared]

theorem pathCleared_tag (s : State) (u : TagNo) : (pathCleared s).mli.tags[u] = .free := by
  simp [pathCleared]

theorem pathCleared_requester (s : State) (r : RequesterNo) :
    (pathCleared s).rqt.requesters[r] = { s.rqt.requesters[r] with held := 0 } := by
  simp [pathCleared]

theorem pathCleared_staging (s : State) : (pathCleared s).rqt.staging = s.rqt.staging := by
  simp only [pathCleared]

theorem pathCleared_flt (s : State) : (pathCleared s).flt = s.flt.appendAll s.pathResetRecords := by
  simp only [pathCleared, State.log_flt]

theorem pathCleared_mnt (s : State) : (pathCleared s).mnt = s.mnt := by
  simp only [pathCleared, State.log_mnt]

/-- R179: the cleared path leaves a QUIESCING part nothing to wait for. -/
theorem pathCleared_opAfter (s : State) :
    opAfter s (pathCleared s).settleQuiesce =
      if s.mnt.opState = .quiescing then .quiesced else s.mnt.opState := by
  have hfree : ∀ i : EntryNo, (pathCleared s).settleQuiesce.dt.entries[i].state = .free := fun i => by
    rw [State.settleQuiesce_dt, pathCleared_entry]
    rfl
  have hqueue : (pathCleared s).settleQuiesce.pwq = [] := State.settleQuiesce_pwq _
  simp only [opAfter, hfree, hqueue, implies_true, and_true]

/-- R182: what a path reset keeps. -/
theorem pathCleared_settleQuiesce_frame (s : State) :
    (pathCleared s).settleQuiesce =
      { s with
        dt := (pathCleared s).dt, pwq := [], waiting := [], rqt := (pathCleared s).rqt, streak := 0
        mli := (pathCleared s).mli, flt := (pathCleared s).flt
        mnt := (pathCleared s).settleQuiesce.mnt } := by
  conv_lhs => rw [settleQuiesce_frame]
  simp only [pathCleared, State.log]

/-- Settles O39: the act of the command is the path cleared and the change to QUIESCED. -/
theorem pathResetClearsPath : Obligations.PathResetClearsPath := by
  intro d a s haddressed
  refine ⟨fun hloading => ?_, fun hloading => ?_⟩
  · rw [exec_pathReset, portCommand_loading 9 haddressed hloading]
  · rw [exec_pathReset, portCommand_taken 9 haddressed hloading (pathResetAct_eq s)]
    have hmnt := settleQuiesce_mnt (pathCleared_mnt s)
    have hframe := pathCleared_settleQuiesce_frame s
    rw [pathCleared_opAfter] at hmnt
    rw [hmnt] at hframe
    rw [hframe]
    refine ⟨_, rfl, pathCleared_entry s, rfl, rfl, rfl, pathCleared_staging s, pathCleared_requester s,
      rfl, ?_, rfl, rfl, pathCleared_tag s, ?_, rfl, rfl⟩
    · exact congrArg (s.mli.linkReset || ·) (beq_eq_decide _ _)
    · exact (pathCleared_flt s).trans (congrArg (s.flt.appendAll ·) (pathResetRecords_eq s))

end Sys2Proof.CommandProofs

/-! # Proofs: the bus reset and the values of the power-on reset -/

namespace Sys2Proof.ResetProofs

open Sys2Proof Sys2Proof.Machine Sys2Proof.Claims Sys2Proof.WindowCommitProofs Sys2Proof.CommandProofs

/-! ## The bus reset -/

/-- R66: the set that a bus reset withdraws. -/
def everyEntry (_ : Entry) : Bool := true

/-- The state of a bus reset before the part may become QUIESCED: every entry withdrawn (R66), and the Waiting
List, the reservations and the held counts cleared (R84). -/
def reservationsCleared (s : State) : State :=
  { s.withdraw everyEntry with
    waiting := []
    rqt := { (s.withdraw everyEntry).rqt with
             requesters := mapTable (fun _ q => { q with held := 0 }) (s.withdraw everyEntry).rqt.requesters }
    dt := { (s.withdraw everyEntry).dt with
            entries := mapTable (fun _ e => e.unreserved) (s.withdraw everyEntry).dt.entries } }

theorem exec_busReset (s : State) :
    exec .busReset s = .next (reservationsCleared s).settleQuiesce := rfl

section Cleared

variable (s : State)

theorem reservationsCleared_entry (j : EntryNo) :
    (reservationsCleared s).dt.entries[j] = (s.withdraw everyEntry).dt.entries[j].unreserved := by
  simp only [reservationsCleared, mapTable_get]

/-- R84: whatever the withdrawal takes from a held count, it becomes 0, and the record is kept beside it. -/
theorem reservationsCleared_requester (r : RequesterNo) :
    (reservationsCleared s).rqt.requesters[r] = { s.rqt.requesters[r] with held := 0 } := by
  simp only [reservationsCleared, mapTable_get, State.withdraw, RequesterTable.lowerHeld_get]

theorem reservationsCleared_staging : (reservationsCleared s).rqt.staging = s.rqt.staging := by
  simp only [reservationsCleared, withdraw_staging]

theorem reservationsCleared_age : (reservationsCleared s).dt.age = (s.withdraw everyEntry).dt.age := by
  simp only [reservationsCleared]

theorem reservationsCleared_flt : (reservationsCleared s).flt = (s.withdraw everyEntry).flt := by
  simp only [reservationsCleared]

theorem reservationsCleared_mnt : (reservationsCleared s).mnt = s.mnt := by
  simp only [reservationsCleared, State.withdraw_mnt]

/-- R183: what a bus reset keeps. -/
theorem reservationsCleared_settleQuiesce_frame :
    (reservationsCleared s).settleQuiesce =
      { s with
        waiting := [], rqt := (reservationsCleared s).rqt, dt := (reservationsCleared s).dt
        flt := (reservationsCleared s).flt, mnt := (reservationsCleared s).settleQuiesce.mnt } := by
  conv_lhs => rw [settleQuiesce_frame]
  simp only [reservationsCleared, State.withdraw]

end Cleared

/-- Settles O48: a bus reset is the withdrawal of every entry, the clearing of the reservations and the change to
QUIESCED, and each clause is what one of the three leaves. -/
theorem busResetWithdrawsEveryEntry : Obligations.BusResetWithdrawsEveryEntry := by
  intro s
  have hset : ∀ j : EntryNo, everyEntry s.dt.entries[j] = true ↔ True := fun _ => iff_true_intro rfl
  refine ⟨_, exec_busReset s, ⟨_, withdrawn_of_withdraw hset ?_ ?_, fun j => ?_⟩, ?_, ?_, fun r => ?_, ?_, ?_⟩
  · rw [State.settleQuiesce_dt, reservationsCleared_age]
  · rw [State.settleQuiesce_flt, reservationsCleared_flt]
  · rw [State.settleQuiesce_dt, reservationsCleared_entry]
    rfl
  · exact State.settleQuiesce_waiting _
  · rw [State.settleQuiesce_rqt, reservationsCleared_staging]
  · rw [State.settleQuiesce_rqt, reservationsCleared_requester]
  · exact settleQuiesce_mnt (reservationsCleared_mnt s)
  · rw [State.settleQuiesce_waiting, State.settleQuiesce_rqt, State.settleQuiesce_dt, State.settleQuiesce_flt]
    exact reservationsCleared_settleQuiesce_frame s

/-! ## The power-on values of the tables -/

/-- R19: every window disabled, with its other fields at their power-on values. -/
theorem reset_window (n : WindowNo) : State.reset.wt.windows[n] = Window.powerOn := by
  simp [State.reset]

/-- R72: every requester disabled, with quota 4 and its counts at 0. -/
theorem reset_requester (r : RequesterNo) : State.reset.rqt.requesters[r] = Requester.powerOn := by
  simp [State.reset]

/-- R65: every entry FREE, with no reservation and no timer running. -/
theorem reset_entry (i : EntryNo) : State.reset.dt.entries[i] = Entry.free := by
  simp [State.reset]

/-- R116: the whole Tag Pool FREE. -/
theorem reset_tag (t : TagNo) : State.reset.mli.tags[t] = .free := by
  simp [State.reset]

/-- R170: the kinds whose alert-enable is off after reset. -/
theorem alertEnableReset_bit :
    ∀ b : Fin 23, FaultUnit.alertEnableReset.getLsbD b.val = !decide (b.val ∈ [2, 3, 4, 6, 7, 9, 14, 17]) := by
  decide

/-- Settles O45: the tables hold their power-on rows, and every other value stands in the state as written. -/
theorem resetLeavesStatedValues : Obligations.ResetLeavesStatedValues := by
  exact ⟨rfl, rfl, rfl, rfl, rfl, rfl, rfl, rfl, rfl, rfl, rfl, rfl, rfl, rfl, rfl, rfl, rfl, rfl, rfl, rfl,
    rfl, rfl, rfl, rfl, reset_window, rfl, reset_requester, rfl, reset_entry, reset_tag, rfl, rfl, rfl, rfl, rfl,
    alertEnableReset_bit⟩

end Sys2Proof.ResetProofs

/-! # Proofs: the expiry of a reservation timer

The entry offered again is one that has just become unreserved, so that the offer decides both its reservation
fields. -/

namespace Sys2Proof.ReservationExpiryProofs

open Sys2Proof Sys2Proof.Machine

theorem exec_reservationTimerExpiry (i : EntryNo) (s : State) :
    exec (.reservationTimerExpiry i) s = .next (s.expireReservation i) := rfl

theorem expireReservation_due {i : EntryNo} {s : State} (hfree : s.dt.entries[i].state = .free)
    (hdue : s.dt.entries[i].reservationTimer = some 0) :
    s.expireReservation i = s.reservationExpiry i := if_pos ⟨hfree, hdue⟩

/-- R80, R82: an entry that has lost its reservation, offered alone, goes to the head of the Waiting List or stays
unreserved. -/
theorem offerAll_of_unreserved (time : Nat) (i : EntryNo) (w : List RequesterNo) (es : Vector Entry 24) :
    offerAll time [i] (w, es.set i es[i].unreserved) =
      (w.tail,
        es.set i
          { es[i] with
            reservedFor := w.head?
            reservationTimer := w.head?.map fun _ => time }) := by
  cases w with
  | nil => rfl
  | cons r rest => simp [Entry.unreserved]

/-- Settles O30: the timer is due, and the expiry is the offer of the entry without its reservation. -/
theorem reservationExpiryPassesEntryOn : Obligations.ReservationExpiryPassesEntryOn := by
  intro s i hfree hdue
  rw [exec_reservationTimerExpiry, expireReservation_due hfree hdue]
  simp only [State.reservationExpiry, State.offer, DeferralTable.put, offerAll_of_unreserved]

end Sys2Proof.ReservationExpiryProofs

/-! # Proofs: REQUESTER_COMMIT and the disabling of a requester

The accepted command writes the configuration fields; a disable is then a withdrawal of the requester's entries, a
release of its reservation, one offer and the change to QUIESCED. -/

namespace Sys2Proof.RequesterCommitProofs

open Sys2Proof Sys2Proof.Machine Sys2Proof.Claims Sys2Proof.WindowCommitProofs Sys2Proof.CommandProofs

theorem exec_requesterCommit (d : DeviceAddr) (a : Byte) (s : State) :
    exec (.requesterCommit d a) s =
      .next (if s.portTakes d then s.takeCommand 2 (requesterCommitAct a) else s) := rfl

/-! ## The two acts of an accepted commit -/

section Accepted

variable {a : Byte} {r : RequesterNo} {s : State} (harg : a.toNat = r.val)
  (hlow : 1 ≤ s.rqt.staging.quota.toNat) (hhigh : s.rqt.staging.quota.toNat ≤ 24)
include harg hlow hhigh

/-- R74: past its tests the act of the command hangs on the staged enabled field alone. -/
theorem requesterCommitAct_accepted :
    requesterCommitAct a s =
      (.ok, if s.rqt.staging.enabled then s.writeRequester r
        else (s.writeRequester r).disableRequester r) := by
  have hquota : ¬ (s.rqt.staging.quota.toNat < 1 ∨ 24 < s.rqt.staging.quota.toNat) := by omega
  simp only [requesterCommitAct, numbered_eq_some.2 harg, if_neg hquota]
  split <;> rfl

theorem requesterCommitAct_enable (hon : s.rqt.staging.enabled = true) :
    requesterCommitAct a s = (.ok, s.writeRequester r) := by
  rw [requesterCommitAct_accepted harg hlow hhigh, if_pos hon]

theorem requesterCommitAct_disable (hoff : s.rqt.staging.enabled = false) :
    requesterCommitAct a s = (.ok, (s.writeRequester r).disableRequester r) := by
  rw [requesterCommitAct_accepted harg hlow hhigh, hoff, if_neg Bool.false_ne_true]

end Accepted

/-! ## The configuration fields -/

/-- R74, R75: the record takes the staged fields and keeps its counts. -/
theorem writeRequester_get (r q : RequesterNo) (s : State) :
    (s.writeRequester r).rqt.requesters[q] =
      if q = r then
        { s.rqt.requesters[q] with
          enabled := s.rqt.staging.enabled, quota := s.rqt.staging.quota.toNat }
      else s.rqt.requesters[q] :=
  RequesterTable.update_get ..

theorem writeRequester_staging (r : RequesterNo) (s : State) :
    (s.writeRequester r).rqt.staging = s.rqt.staging := RequesterTable.update_staging ..

theorem writeRequester_requesterChanged {r : RequesterNo} {s : State} {b : Bool}
    (hb : s.rqt.staging.enabled = b) :
    RequesterChanged r (fun x => { x with enabled := b, quota := s.rqt.staging.quota.toNat }) s
      (s.writeRequester r) :=
  hb ▸ ⟨writeRequester_staging r s, fun q => writeRequester_get r q s⟩

/-! ## The disabling -/

/-- R76: the set that the disabling of requester r withdraws. -/
def requestedBy (r : RequesterNo) (e : Entry) : Bool := e.requester == some r

theorem requestedBy_iff {r : RequesterNo} {e : Entry} : requestedBy r e = true ↔ e.requester = some r :=
  beq_iff_eq

/-- R41, R76: the withdrawal of one requester's entries leaves every other held count. -/
theorem liveOf_of_other {q r : RequesterNo} (hne : q ≠ r) (s : State) :
    liveOf (fun j => s.dt.entries[j].requester = some r) q s = 0 := by
  refine List.countP_eq_zero.2 fun j _ hcounted => hne ?_
  simp only [Bool.and_eq_true, decide_eq_true_eq] at hcounted
  obtain ⟨⟨hr, hq⟩, -⟩ := hcounted
  exact Option.some.inj (hq.symm.trans hr)

/-- R76: the released and the freed entries, ascending. -/
def offeredByDisable (r : RequesterNo) (s : State) : List EntryNo :=
  entriesWhere (fun e => (requestedBy r e && e.withdrawalFrees) || e.reservedFor == some r) s.dt.entries

theorem offeredByDisable_eq_ascending (r : RequesterNo) (s : State) :
    offeredByDisable r s =
      ascending fun j =>
        (s.dt.entries[j].requester = some r ∧
          (s.dt.entries[j].state = .waiting ∨ s.dt.entries[j].state = .held)) ∨
        s.dt.entries[j].reservedFor = some r :=
  entriesWhere_eq_ascending fun j => by
    rw [Bool.or_eq_true, Bool.and_eq_true, requestedBy_iff, withdrawalFrees_iff, beq_iff_eq]

/-- The state of a disabling commit with the fields written, the entries withdrawn and the reservation released,
before the entries are offered. -/
def withdrawnAndReleased (r : RequesterNo) (s : State) : State :=
  { s.withdraw (requestedBy r) with
    rqt := ((s.writeRequester r).withdraw (requestedBy r)).rqt.update r fun q => { q with held := 0 }
    waiting := s.waiting.filter (fun q => q ≠ r)
    dt := (s.withdraw (requestedBy r)).dt.releaseReservation r }

/-- The state of a disabling commit before the outcome stands in CMD_STATUS. -/
def disabled (r : RequesterNo) (s : State) : State := (s.writeRequester r).disableRequester r

/-- R76, R179: the entries are offered together and the part may become QUIESCED. -/
theorem disabled_eq (r : RequesterNo) (s : State) :
    disabled r s = ((withdrawnAndReleased r s).offer (offeredByDisable r s)).settleQuiesce := rfl

theorem releaseReservation_get (r : RequesterNo) (d : DeferralTable) (j : EntryNo) :
    (d.releaseReservation r).entries[j] =
      if d.entries[j].reservedFor = some r then
        { d.entries[j] with reservedFor := none, reservationTimer := none }
      else d.entries[j] :=
  mapTable_get ..

section Disabled

variable (r : RequesterNo) (s : State)

/-- A disabling commit touches the requester records, the Waiting List, the Deferral Table, the Fault Unit and the
Maintenance Port alone. -/
theorem disabled_frame :
    disabled r s =
      { s with
        rqt := (disabled r s).rqt, waiting := (disabled r s).waiting, dt := (disabled r s).dt
        flt := (disabled r s).flt, mnt := (disabled r s).mnt } := by
  rw [disabled_eq, State.settleQuiesce_eq]
  simp [withdrawnAndReleased, State.offer, State.withdraw]

theorem disabled_rqt : (disabled r s).rqt = (withdrawnAndReleased r s).rqt := by
  rw [disabled_eq, State.settleQuiesce_rqt, State.offer_rqt]

theorem disabled_flt : (disabled r s).flt = (s.withdraw (requestedBy r)).flt := by
  simp [disabled_eq, withdrawnAndReleased]

theorem disabled_age : (disabled r s).dt.age = (s.withdraw (requestedBy r)).dt.age := by
  simp [disabled_eq, withdrawnAndReleased, DeferralTable.releaseReservation]

/-- R76, R80: the Waiting List without the requester, and the entries without its reservation, meet one offer. -/
theorem disabled_offers :
    ((disabled r s).waiting, (disabled r s).dt.entries) =
      offerAll s.mnt.settings.reservationTime.toNat (offeredByDisable r s)
        (s.waiting.filter (fun q => q ≠ r),
          ((s.withdraw (requestedBy r)).dt.releaseReservation r).entries) := by
  simp [disabled_eq, withdrawnAndReleased]

theorem disabled_mnt : (disabled r s).mnt = { s.mnt with opState := opAfter s (disabled r s) } := by
  rw [disabled_eq]
  exact settleQuiesce_mnt (by simp [withdrawnAndReleased])

theorem withdrawnAndReleased_staging : (withdrawnAndReleased r s).rqt.staging = s.rqt.staging := by
  simp only [withdrawnAndReleased, RequesterTable.update_staging, withdraw_staging, writeRequester_staging]

/-- R76: the requester's held count becomes 0, and the withdrawal lowers no other. -/
theorem withdrawnAndReleased_get (q : RequesterNo) :
    (withdrawnAndReleased r s).rqt.requesters[q] =
      if q = r then { (s.writeRequester r).rqt.requesters[q] with held := 0 }
      else (s.writeRequester r).rqt.requesters[q] := by
  have hset : ∀ j : EntryNo, requestedBy r (s.writeRequester r).dt.entries[j] = true ↔
      (s.writeRequester r).dt.entries[j].requester = some r := fun _ => requestedBy_iff
  simp only [withdrawnAndReleased, RequesterTable.update_get, withdraw_requester hset]
  split
  · rfl
  · next hne => rw [liveOf_of_other hne, Nat.sub_zero]

end Disabled

theorem disabled_requesterChanged {r : RequesterNo} {s : State} (hoff : s.rqt.staging.enabled = false) :
    RequesterChanged r
      (fun x => { x with enabled := false, quota := s.rqt.staging.quota.toNat, held := 0 }) s
      (disabled r s) := by
  refine ⟨?_, fun q => ?_⟩
  · rw [disabled_rqt, withdrawnAndReleased_staging]
  · rw [disabled_rqt, withdrawnAndReleased_get, writeRequester_get, hoff]
    split <;> rfl

/-! ## The statement -/

/-- Settles O34: an enabling commit is the update of one record, and each clause of a disabling one is what the
withdrawal, the release, the offer or the change to QUIESCED leaves. -/
theorem requesterCommitWritesAndWithdraws : Obligations.RequesterCommitWritesAndWithdraws := by
  intro d a s r hcmd harg hlow hhigh
  obtain ⟨haddressed, hloading⟩ := hcmd
  refine ⟨fun hon => ?_, fun hoff => ?_⟩
  · rw [exec_requesterCommit,
      portCommand_taken 2 haddressed hloading (requesterCommitAct_enable harg hlow hhigh hon)]
    exact ⟨_, rfl, writeRequester_requesterChanged hon, rfl⟩
  · have hset : ∀ j : EntryNo, requestedBy r s.dt.entries[j] = true ↔ s.dt.entries[j].requester = some r :=
      fun _ => requestedBy_iff
    have hwithdrawn := withdrawn_of_withdraw hset (disabled_age r s) (disabled_flt r s)
    have hoffers := disabled_offers r s
    rw [offeredByDisable_eq_ascending] at hoffers
    rw [exec_requesterCommit,
      portCommand_taken 2 haddressed hloading (requesterCommitAct_disable harg hlow hhigh hoff)]
    refine ⟨_, rfl, disabled_requesterChanged hoff,
      ⟨_, _, hwithdrawn, releaseReservation_get r _, hoffers⟩, ?_, ?_⟩
    · exact congrArg (fun m => { m with cmdOutcome := .ok, cmdCode := 2 }) (disabled_mnt r s)
    · exact congrArg (withStatus 2 .ok) (disabled_frame r s)

end Sys2Proof.RequesterCommitProofs

/-! # Proofs: answers to requests that no requester waits for

The fields of a record and the freeing of one entry in the manual's vocabulary, then a READ_CPL dispatched by the
state of its tag, then the answers to orphans and the answers that are dropped. -/

namespace Sys2Proof.UnawaitedAnswerProofs

open Sys2Proof Sys2Proof.Machine Sys2Proof.Claims Sys2Proof.WindowCommitProofs

/-! ## The fields of a record -/

theorem up_eq_upOf (e : Entry) : e.up = upOf e := by
  unfold Entry.up upOf
  cases e.key with
  | none => rfl
  | some k => cases k <;> rfl

theorem entryRecord_eq_recordOf (k : FaultKind) (i : EntryNo) (s : State) :
    s.entryRecord k i = recordOf k i s := by
  simp only [State.entryRecord, State.record, recordOf, up_eq_upOf, down_eq_downOfEntry]

theorem completionRecord_eq (checkOk : Bool) (t : TagNo) (i : EntryNo) (st : Status) (s : State) :
    s.completionRecord checkOk t i st =
      ((completionKind checkOk st).map fun k =>
        { recordOf k i s with tag := some t, status := some st }).toList := by
  simp only [State.completionRecord, entryRecord_eq_recordOf]

/-! ## One entry freed -/

/-- R40, R41: of the entries in use, the ORPHANED ones alone are counted by no held count. -/
theorem live_eq_not_orphaned {e : Entry} (hstate : e.state ≠ .free) :
    e.live = !decide (e.state = .orphaned) := by
  unfold Entry.live
  cases he : e.state with
  | free => exact absurd he hstate
  | waiting | issued | held | orphaned => rfl

section Freed

variable {i : EntryNo} {s : State}

/-- R41: the freed entry leaves its requester's held count, unless it was ORPHANED and left the count before. -/
theorem freeEntry_requester (hstate : s.dt.entries[i].state ≠ .free) (r : RequesterNo) :
    (s.freeEntry i).rqt.requesters[r] =
      if s.dt.entries[i].requester = some r then
        { s.rqt.requesters[r] with
          held := s.rqt.requesters[r].held - (if s.dt.entries[i].state = .orphaned then 0 else 1) }
      else s.rqt.requesters[r] := by
  have hlive := live_eq_not_orphaned hstate
  rw [State.freeEntry_eq, RequesterTable.lowerHeld_get, List.countP_singleton]
  generalize s.dt.entries[i] = e at hlive ⊢
  by_cases hr : e.requester = some r
  · simp [hlive, hr]
  · simp [hr]

theorem freeEntry_waiting : (s.freeEntry i).waiting = s.waiting.tail := by
  rw [State.freeEntry_eq, State.offer_waiting, offerAll_single_waiting, State.release_waiting]

theorem freeEntry_age : (s.freeEntry i).dt.age = s.dt.age.filter (fun j => j ≠ i) := by
  rw [State.freeEntry_eq, State.offer_age, State.release_dt, DeferralTable.clear_age]
  simp only [List.mem_singleton, ne_eq]

theorem freeEntry_staging : (s.freeEntry i).rqt.staging = s.rqt.staging := by
  rw [State.freeEntry_eq, RequesterTable.lowerHeld_staging]

theorem freeEntry_mnt :
    (s.freeEntry i).mnt = { s.mnt with opState := opAfter s (s.freeEntry i) } :=
  settleQuiesce_mnt (by rw [State.offer_mnt, State.release_mnt])

/-- R39, R41, R42, R80: the model's freeing of an entry is the manual's. -/
theorem entryFreed_freeEntry (hstate : s.dt.entries[i].state ≠ .free) :
    EntryFreed i id s (s.freeEntry i) :=
  ⟨freeEntry_waiting, fun j => s.freeEntry_get i j, freeEntry_age, freeEntry_staging,
    freeEntry_requester hstate, freeEntry_mnt⟩

end Freed

/-! ## READ_CPL by the state of its tag -/

section Dispatch

variable {s : State} {c : ReadCompletion}

theorem exec_readCpl (hon : s.powerOn = false) :
    exec (.readCpl c) s = .next (s.completion (s.completionOk c) c) :=
  congrArg Host.Outcome.next (if_neg (by simp [hon]))

theorem exec_readCpl_free (hon : s.powerOn = false) (htag : s.mli.tags[c.tag] = .free) :
    exec (.readCpl c) s = .next (s.unexpectedCompletion c) := by
  simp only [exec_readCpl hon, State.completion, htag]

theorem exec_readCpl_quarantined {r : RequesterNo} {a : DownAddr} {i : EntryNo} (hon : s.powerOn = false)
    (htag : s.mli.tags[c.tag] = .quarantined r a i) :
    exec (.readCpl c) s = .next (s.lateCompletion c r a i) := by
  simp only [exec_readCpl hon, State.completion, htag]

theorem exec_readCpl_orphaned {i : EntryNo} (hon : s.powerOn = false) (htag : s.mli.tags[c.tag] = .bound i)
    (hstate : s.dt.entries[i].state = .orphaned) :
    exec (.readCpl c) s =
      .next (s.completeOrphan (completionCheckPasses c s.dt.entries[i]) c i) := by
  simp only [exec_readCpl hon, State.completion, State.completionOk, htag, hstate]

end Dispatch

theorem completionCheckPasses_iff {c : ReadCompletion} {e : Entry} {sp : Span} (hspan : e.span = some sp) :
    completionCheckPasses c e = true ↔
      c.dataCheck = Config.dataCheckCode c.data ∧ c.data.length = sp.length := by
  simp [completionCheckPasses, Entry.spanLength, hspan]

/-! ## A completion to an orphan -/

section Orphan

variable (checkOk : Bool) (c : ReadCompletion) (i : EntryNo) (s : State)

/-- The state of a completion to an orphan with its record made and its tag FREE, before the entry is freed. -/
def orphanAnswered : State :=
  { s.log (s.completionRecord checkOk c.tag i (readStatus c.status)) with mli := s.mli.setTag c.tag .free }

theorem completeOrphan_eq : s.completeOrphan checkOk c i = (orphanAnswered checkOk c i s).freeEntry i := rfl

theorem completeOrphan_flt :
    (s.completeOrphan checkOk c i).flt =
      s.flt.appendAll (s.completionRecord checkOk c.tag i (readStatus c.status)) := by
  rw [completeOrphan_eq, State.freeEntry_eq]
  rfl

/-- R121: what a completion to an orphan keeps. -/
theorem completeOrphan_frame :
    s.completeOrphan checkOk c i =
      { s with
        waiting := (s.completeOrphan checkOk c i).waiting, rqt := (s.completeOrphan checkOk c i).rqt
        dt := (s.completeOrphan checkOk c i).dt, mnt := (s.completeOrphan checkOk c i).mnt
        flt := (s.completeOrphan checkOk c i).flt
        mli := { s.mli with tags := s.mli.tags.set c.tag .free } } := by
  rw [completeOrphan_eq, State.freeEntry_eq]
  rfl

end Orphan

/-- Settles O19: the record is made and the tag freed, neither of which the freeing of the entry reads; the record
follows the status, and for OK the data check. -/
theorem orphanCompletionFreesTagAndEntry : Obligations.OrphanCompletionFreesTagAndEntry := by
  intro s c i sp hon htag hstate hspan
  have hbusy : s.dt.entries[i].state ≠ .free := by
    rw [hstate]
    decide
  have hfreed : EntryFreed i id s (s.completeOrphan (completionCheckPasses c s.dt.entries[i]) c i) :=
    entryFreed_freeEntry (s := orphanAnswered _ c i s) hbusy
  refine ⟨_, exec_readCpl_orphaned hon htag hstate, hfreed, ?_, completeOrphan_frame ..⟩
  rw [completeOrphan_flt, completionRecord_eq]
  congr 1
  cases c.status with
  | ok =>
    by_cases hcheck : c.dataCheck = Config.dataCheckCode c.data ∧ c.data.length = sp.length
    · rw [(completionCheckPasses_iff hspan).2 hcheck]
      exact (if_pos hcheck).symm
    · rw [Bool.eq_false_iff.2 (mt (completionCheckPasses_iff hspan).1 hcheck)]
      exact (if_neg hcheck).symm
  | poison | noMemory | refused | other _ => rfl

/-! ## Answers without a request -/

/-- R129: with no member in flight the acknowledgement is dropped with its record, and no timer is due behind it. -/
theorem exec_writeAck_empty {s : State} (status : LinkStatus) (hon : s.powerOn = false)
    (hempty : s.mli.flights = []) :
    exec (.writeAck status) s =
      .next (s.log [{ s.record .unexpectedCompletion with status := some (ackStatus status) }]) := by
  have hexec : exec (.writeAck status) s = .next (s.ack status).ackTimeout :=
    congrArg Host.Outcome.next (if_neg (by simp [hon]))
  simp only [hexec, State.ack, State.ackTimeout, State.log_mli, hempty]

/-- Settles O20: the tag's state, or the empty list, decides which record the part makes, and the dropped answer
changes nothing beside it but a QUARANTINED tag. -/
theorem answersWithoutRequestAreDropped : Obligations.AnswersWithoutRequestAreDropped := by
  intro s c st hon hst
  obtain rfl : st = readStatus c.status := by
    rw [hst]
    cases c.status <;> rfl
  refine ⟨fun r a i htag => ?_, fun htag => ?_, fun status hempty => ?_⟩
  · exact exec_readCpl_quarantined hon htag
  · exact exec_readCpl_free hon htag
  · rw [exec_writeAck_empty status hon hempty]
    cases status <;> rfl

end Sys2Proof.UnawaitedAnswerProofs

/-! # Proofs: QUIESCE, RESUME and LINK_RESET

Each of the three commands is refused with STATE by its own test as by the LOADING test, so that a refusal needs no
case for LOADING; an accepted one changes the operating state or the link alone. -/

namespace Sys2Proof.OperatingStateProofs

open Sys2Proof Sys2Proof.Machine Sys2Proof.Claims Sys2Proof.UpstreamProofs Sys2Proof.CommandProofs

theorem exec_quiesce (d : DeviceAddr) (a : Byte) (s : State) :
    exec (.quiesce d a) s = .next (if s.portTakes d then s.takeCommand 7 quiesceAct else s) := rfl

theorem exec_resume (d : DeviceAddr) (a : Byte) (s : State) :
    exec (.resume d a) s = .next (if s.portTakes d then s.takeCommand 8 resumeAct else s) := rfl

theorem exec_linkReset (d : DeviceAddr) (a : Byte) (s : State) :
    exec (.linkReset d a) s = .next (if s.portTakes d then s.takeCommand 10 linkResetAct else s) := rfl

/-- R176: an act that refuses with STATE answers as the LOADING test does. -/
theorem portCommand_refused {d : DeviceAddr} {s : State} (code : Byte) {act : State → CmdOutcome × State}
    (haddressed : Addressed d s) (hact : s.mnt.opState ≠ .loading → act s = (.state, s)) :
    (if s.portTakes d then s.takeCommand code act else s) = withStatus code .state s := by
  by_cases hloading : s.mnt.opState = .loading
  · exact portCommand_loading code haddressed hloading
  · exact portCommand_taken code haddressed hloading (hact hloading)

section Acts

variable {s : State}

theorem quiesceAct_refused (h : s.mnt.opState ≠ .active) : quiesceAct s = (.state, s) := if_neg h

/-- R178: the part is QUIESCED at once when nothing is left to wait for. -/
theorem quiesceAct_idle (hactive : s.mnt.opState = .active)
    (hfree : ∀ i : EntryNo, s.dt.entries[i].state = .free) (hqueue : s.pwq = []) :
    quiesceAct s = (.ok, { s with mnt := { s.mnt with opState := .quiesced } }) := by
  rw [quiesceAct, if_pos hactive, State.settleQuiesce, if_pos ⟨rfl, State.allFree_iff.2 hfree, hqueue⟩]

theorem quiesceAct_busy (hactive : s.mnt.opState = .active)
    (hbusy : ¬ ((∀ i : EntryNo, s.dt.entries[i].state = .free) ∧ s.pwq = [])) :
    quiesceAct s = (.ok, { s with mnt := { s.mnt with opState := .quiescing } }) := by
  rw [quiesceAct, if_pos hactive, State.settleQuiesce, if_neg]
  rintro ⟨-, hfree, hqueue⟩
  exact hbusy ⟨State.allFree_iff.1 hfree, hqueue⟩

theorem resumeAct_refused (h : s.mnt.opState = .loading ∨ s.mnt.opState = .active) :
    resumeAct s = (.state, s) := by
  refine if_neg fun haway => ?_
  rcases h with h | h <;> simp [turnsAway_iff, h] at haway

theorem resumeAct_accepted (h : s.mnt.opState = .quiescing ∨ s.mnt.opState = .quiesced) :
    resumeAct s = (.ok, { s with mnt := { s.mnt with opState := .active } }) :=
  if_pos (turnsAway_iff.2 h)

theorem linkResetAct_refused (h : s.mli.state ≠ .up) : linkResetAct s = (.state, s) := if_neg h

theorem linkResetAct_accepted (h : s.mli.state = .up) :
    linkResetAct s = (.ok, { s with mli := s.mli.leaveUp }) := if_pos h

end Acts

/-- Settles O38: the act of each command refuses or accepts by the operating state or the link state. -/
theorem quiesceResumeAndLinkReset : Obligations.QuiesceResumeAndLinkReset := by
  intro d a s haddressed
  simp only [exec_quiesce, exec_resume, exec_linkReset]
  refine ⟨fun hop => ?_, fun hop => ?_, fun hrefused => ?_, fun hop hfree hqueue => ?_, fun hop hbusy => ?_,
    fun hop => ?_, fun hloading hup => ?_⟩
  · rw [portCommand_refused 7 haddressed fun _ => quiesceAct_refused hop]
  · rw [portCommand_refused 8 haddressed fun _ => resumeAct_refused hop]
  · rw [portCommand_refused 10 haddressed fun hloading =>
      linkResetAct_refused (hrefused.resolve_left hloading)]
  · rw [portCommand_taken 7 haddressed (by simp [hop]) (quiesceAct_idle hop hfree hqueue)]
  · rw [portCommand_taken 7 haddressed (by simp [hop]) (quiesceAct_busy hop hbusy)]
  · have hloading : s.mnt.opState ≠ .loading := by
      rcases hop with h | h <;> simp [h]
    rw [portCommand_taken 8 haddressed hloading (resumeAct_accepted hop)]
  · rw [portCommand_taken 10 haddressed hloading (linkResetAct_accepted hup)]
    rfl

end Sys2Proof.OperatingStateProofs

/-! # Proofs: the loss of the link

Entering DOWN settles the tags and the entries at once, and then the members of the In-Flight Write List one after
the other.  No entry is WAITING any more when the first member leaves, so that the departures count down no SYNC:
each member takes the head of the queue or settles the one entry it refers to, and the whole list has a closed
form. -/

namespace Sys2Proof.LinkDownProofs

open Sys2Proof Sys2Proof.Machine Sys2Proof.Claims Sys2Proof.WindowCommitProofs Sys2Proof.CommandProofs

/-! ## One entry -/

section OneEntry

variable {e : Entry} {time : Nat}

theorem accounted_of_not_waiting {r : RequesterNo} {failed : Bool} (h : e.state ≠ .waiting) :
    e.accounted r failed time = e := if_neg fun hsync => h hsync.1

theorem linkLost_not_waiting : (e.linkLost time).state ≠ .waiting := by
  unfold Entry.linkLost
  cases he : e.state with
  | waiting => exact EntryState.noConfusion
  | issued | orphaned => dsimp only; split <;> simp [he, Entry.free]
  | held | free => simp [he]

theorem flightLost_not_waiting (h : e.state ≠ .waiting) : (e.flightLost time).state ≠ .waiting := by
  unfold Entry.flightLost
  cases he : e.state with
  | waiting => exact absurd he h
  | issued | orphaned => exact EntryState.noConfusion
  | held | free => simp [he]

theorem flightLost_idem : (e.flightLost time).flightLost time = e.flightLost time := by
  unfold Entry.flightLost
  cases he : e.state with
  | issued | orphaned => rfl
  | waiting | held | free => simp only [he]

theorem writeInFlight_iff :
    e.writeInFlight = true ↔ e.kind = some .npWrite ∧ (e.state = .issued ∨ e.state = .orphaned) := by
  simp [Entry.writeInFlight]

/-- R141: the first part of entering DOWN leaves the entries that members of the list refer to. -/
theorem linkLost_of_writeInFlight (h : e.writeInFlight = true) : e.linkLost time = e := by
  obtain ⟨hkind, hstate⟩ := writeInFlight_iff.1 h
  rcases hstate with hstate | hstate <;> simp [Entry.linkLost, hkind, hstate]

/-- R36, R40: memory has yet to answer READs and NP_WRITEs alone. -/
theorem kind_of_formed (hformed : e.formed = true) (hstate : e.state = .issued ∨ e.state = .orphaned) :
    e.kind = some .read ∨ e.kind = some .npWrite := by
  cases hkind : e.kind with
  | none => rcases hstate with h | h <;> simp [Entry.formed, h, hkind] at hformed
  | some k =>
    cases k with
    | read => exact .inl rfl
    | npWrite => exact .inr rfl
    | sync => rcases hstate with h | h <;> simp [Entry.formed, Entry.syncFields, h, hkind] at hformed

/-- R141, R143: what the two parts of entering DOWN make of an entry, whose state alone decides. -/
theorem linkLost_flightLost_eq_lostAs (s : State) (hformed : e.formed = true)
    (htime : time = s.mnt.settings.discardTime.toNat) :
    (if e.writeInFlight then (e.linkLost time).flightLost time else e.linkLost time) = lostAs s e := by
  subst htime
  cases hstate : e.state with
  | waiting | held | free =>
    simp [Entry.writeInFlight, Entry.linkLost, lostAs, hstate, Entry.enterHeld, heldWith]
  | issued | orphaned =>
    rcases kind_of_formed hformed (by simp [hstate]) with hkind | hkind <;>
      simp [Entry.writeInFlight, Entry.linkLost, Entry.flightLost, lostAs, hstate, hkind, Entry.enterHeld,
        heldWith]

end OneEntry

theorem lostAs_free {s : State} {e : Entry} (h : e.state = .orphaned) : (lostAs s e).state = .free := by
  simp [lostAs, h, Entry.free]

/-! ## The queue -/

/-- R88: the ISSUED records stand ahead of the QUEUED ones, which alone are left when as many as are ISSUED have
departed. -/
theorem drop_issued_eq_filter_queued {q : List PostedWrite}
    (h : q.Pairwise fun a b => b.state = .issued → a.state = .issued) :
    q.drop (issuedCount q) = q.filter (fun w => w.state = .queued) := by
  induction h with
  | nil => rfl
  | @cons w q hw _ ih =>
    cases hstate : w.state with
    | issued => simpa [issuedCount, hstate] using ih
    | queued =>
      have hqueued : ∀ x ∈ w :: q, x.state = .queued := List.forall_mem_cons.2 ⟨hstate, fun x hx => by
        cases hx' : x.state with
        | queued => rfl
        | issued => simpa [hstate] using hw x hx hx'⟩
      have hnone : issuedCount (w :: q) = 0 := List.countP_eq_zero.2 fun x hx => by simp [hqueued x hx]
      rw [hnone, List.drop_zero, List.filter_eq_self.2 fun x hx => decide_eq_true (hqueued x hx)]

theorem postedFlights_eq_count (fs : List FlightMember) :
    postedFlights fs = (fs.map FlightMember.ref).count .posted := by
  rw [postedFlights, List.count, List.countP_map]
  rfl

/-! ## The records of the members -/

/-- The records read the state only for its tick count and for the entries that members refer to. -/
theorem lossRecords_congr {s t : State} {refs : List FlightRef} (hticks : t.ticks = s.ticks)
    (hentries : ∀ i, .npWrite i ∈ refs → t.dt.entries[i] = s.dt.entries[i]) (ws : List PostedWrite) :
    lossRecords t refs ws = lossRecords s refs ws := by
  induction refs generalizing ws with
  | nil => rfl
  | cons ref refs ih =>
    have ih := ih fun i hi => hentries i (List.mem_cons_of_mem _ hi)
    cases ref with
    | posted => cases ws <;> simp only [lossRecords, hticks, ih]
    | npWrite i => simp only [lossRecords, unreported, hentries i List.mem_cons_self, hticks, ih]

/-- The records of the first member, and those of the rest, which find the queue without its record. -/
theorem lossRecords_cons (s : State) (ref : FlightRef) (refs : List FlightRef) (ws : List PostedWrite) :
    lossRecords s (ref :: refs) ws =
      lossRecords s [ref] ws ++ lossRecords s refs (ws.drop ([ref].count .posted)) := by
  cases ref with
  | posted => cases ws <;> simp [lossRecords]
  | npWrite i => simp [lossRecords]

/-! ## One member -/

section OneMember

variable {s : State}

/-- R143: a posted member takes the head of the queue, with its record. -/
theorem settleFlight_posted {w : PostedWrite} {ws : List PostedWrite} (hq : s.pwq = w :: ws) :
    s.settleFlight .posted =
      (s.log [{ kind := .writeFateUnknown, time := s.ticks, requester := some w.requester,
                down := some w.address }]).depart w.requester true := by
  simp only [State.settleFlight, hq, State.record]

theorem settleFlight_posted_empty (hq : s.pwq = []) : s.settleFlight .posted = s := by
  simp only [State.settleFlight, hq]

/-- R143: an NP_WRITE member settles its entry, whose record is made if it is ORPHANED. -/
theorem settleFlight_npWrite (i : EntryNo) :
    s.settleFlight (.npWrite i) =
      { s.log (if s.dt.entries[i].state = .orphaned then [unreported i none s] else []) with
        dt := s.dt.put i (s.dt.entries[i].flightLost s.mnt.settings.discardTime.toNat) } := by
  simp only [State.settleFlight, unreportedRecord_eq]

/-- A member touches the queue, the entries and the Fault Unit alone. -/
theorem settleFlight_frame (s : State) (ref : FlightRef) :
    s.settleFlight ref =
      { s with
        pwq := (s.settleFlight ref).pwq, flt := (s.settleFlight ref).flt
        dt := { s.dt with entries := (s.settleFlight ref).dt.entries } } := by
  cases ref with
  | posted =>
    cases hq : s.pwq with
    | nil => rw [settleFlight_posted_empty hq]
    | cons w ws => rw [settleFlight_posted hq]; rfl
  | npWrite i => rw [settleFlight_npWrite]; rfl

theorem settleFlight_pwq (s : State) (ref : FlightRef) :
    (s.settleFlight ref).pwq = s.pwq.drop ([ref].count .posted) := by
  cases ref with
  | posted =>
    cases hq : s.pwq with
    | nil => rw [settleFlight_posted_empty hq, hq, List.drop_nil]
    | cons w ws => rw [settleFlight_posted hq, State.depart_pwq, State.log_pwq, hq]; rfl
  | npWrite i => rw [settleFlight_npWrite]; rfl

theorem settleFlight_flt (s : State) (ref : FlightRef) :
    (s.settleFlight ref).flt = s.flt.appendAll (lossRecords s [ref] s.pwq) := by
  cases ref with
  | posted =>
    cases hq : s.pwq with
    | nil => rw [settleFlight_posted_empty hq]; rfl
    | cons w ws => rw [settleFlight_posted hq]; rfl
  | npWrite i => rw [settleFlight_npWrite, lossRecords, lossRecords, List.append_nil]; rfl

/-- R143: with no SYNC to count down, a member changes no entry but the one it refers to. -/
theorem settleFlight_get (hwaiting : ∀ j : EntryNo, s.dt.entries[j].state ≠ .waiting) (ref : FlightRef)
    (j : EntryNo) :
    (s.settleFlight ref).dt.entries[j] =
      if ref = .npWrite j then s.dt.entries[j].flightLost s.mnt.settings.discardTime.toNat
      else s.dt.entries[j] := by
  cases ref with
  | posted =>
    rw [if_neg FlightRef.noConfusion]
    cases hq : s.pwq with
    | nil => rw [settleFlight_posted_empty hq]
    | cons w ws =>
      rw [settleFlight_posted hq, State.depart_get]
      exact accounted_of_not_waiting (hwaiting j)
  | npWrite i =>
    simp only [settleFlight_npWrite, DeferralTable.put_entries, set_get, FlightRef.npWrite.injEq]
    by_cases hij : i = j
    · subst hij
      simp only [if_true]
    · rw [if_neg (Ne.symm hij), if_neg hij]

theorem settleFlight_not_waiting (hwaiting : ∀ j : EntryNo, s.dt.entries[j].state ≠ .waiting)
    (ref : FlightRef) (j : EntryNo) : (s.settleFlight ref).dt.entries[j].state ≠ .waiting := by
  rw [settleFlight_get hwaiting]
  split
  · exact flightLost_not_waiting (hwaiting j)
  · exact hwaiting j

end OneMember

/-! ## The whole list -/

theorem settleFlights_frame (s : State) (refs : List FlightRef) :
    refs.foldl State.settleFlight s =
      { s with
        pwq := (refs.foldl State.settleFlight s).pwq, flt := (refs.foldl State.settleFlight s).flt
        dt := { s.dt with entries := (refs.foldl State.settleFlight s).dt.entries } } := by
  induction refs generalizing s with
  | nil => rfl
  | cons ref refs ih =>
    refine (ih (s.settleFlight ref)).trans ?_
    rw [List.foldl_cons]
    generalize refs.foldl State.settleFlight (s.settleFlight ref) = t
    rw [settleFlight_frame]

theorem settleFlights_pwq (s : State) (refs : List FlightRef) :
    (refs.foldl State.settleFlight s).pwq = s.pwq.drop (refs.count .posted) := by
  induction refs generalizing s with
  | nil => rfl
  | cons ref refs ih =>
    rw [List.foldl_cons, ih, settleFlight_pwq, List.drop_drop, ← List.count_append, List.singleton_append]

theorem settleFlights_get {s : State} (hwaiting : ∀ j : EntryNo, s.dt.entries[j].state ≠ .waiting)
    (refs : List FlightRef) (j : EntryNo) :
    (refs.foldl State.settleFlight s).dt.entries[j] =
      if .npWrite j ∈ refs then s.dt.entries[j].flightLost s.mnt.settings.discardTime.toNat
      else s.dt.entries[j] := by
  induction refs generalizing s with
  | nil => rfl
  | cons ref refs ih =>
    have hmnt : (s.settleFlight ref).mnt = s.mnt := by rw [settleFlight_frame]
    rw [List.foldl_cons, ih (settleFlight_not_waiting hwaiting ref), settleFlight_get hwaiting ref, hmnt]
    by_cases hhead : ref = .npWrite j <;> by_cases htail : .npWrite j ∈ refs <;>
      simp [hhead, htail, flightLost_idem, Ne.symm]

/-- R143: no entry is referred to twice, so that each member finds its entry as it stood before the first. -/
theorem settleFlights_flt {s : State} (hwaiting : ∀ j : EntryNo, s.dt.entries[j].state ≠ .waiting)
    {refs : List FlightRef} (honce : ∀ i, refs.count (.npWrite i) ≤ 1) :
    (refs.foldl State.settleFlight s).flt = s.flt.appendAll (lossRecords s refs s.pwq) := by
  induction refs generalizing s with
  | nil => rfl
  | cons ref refs ih =>
    have hticks : (s.settleFlight ref).ticks = s.ticks := by rw [settleFlight_frame]
    have honce' : ∀ i, refs.count (.npWrite i) ≤ 1 := fun i =>
      List.count_le_count_cons.trans (honce i)
    have hentries : ∀ i, .npWrite i ∈ refs → (s.settleFlight ref).dt.entries[i] = s.dt.entries[i] :=
      fun i hi => by
        rw [settleFlight_get hwaiting ref, if_neg]
        rintro rfl
        have := honce i
        have := List.count_pos_iff.2 hi
        simp only [List.count_cons_self] at *
        omega
    rw [List.foldl_cons, ih (settleFlight_not_waiting hwaiting ref) honce',
      lossRecords_congr hticks hentries, settleFlight_flt, settleFlight_pwq, lossRecords_cons s ref refs,
      FaultUnit.appendAll_append]

/-! ## The link lost and the list empty -/

/-- R127: the list refers once to each NP_WRITE in flight, and to no other entry. -/
theorem count_npWrite {s : State} (hflights : s.FlightsExact) (i : EntryNo) :
    (s.mli.flights.map FlightMember.ref).count (.npWrite i) =
      if s.dt.entries[i].writeInFlight then 1 else 0 := by
  rw [← hflights i, List.count, List.countP_map]
  rfl

theorem mem_npWrite_iff {s : State} (hflights : s.FlightsExact) {i : EntryNo} :
    .npWrite i ∈ s.mli.flights.map FlightMember.ref ↔ s.dt.entries[i].writeInFlight = true := by
  rw [← List.count_pos_iff, count_npWrite hflights]
  split <;> simp_all

/-- R140–R142: the first part of entering DOWN touches the link, the entries and, by its record, the Fault Unit
alone. -/
theorem loseLink_frame (s : State) :
    s.loseLink =
      { s with
        flt := s.flt.append { kind := .linkDown, time := s.ticks, count := some s.mli.flights.length }
        mli := s.mli.enterDown
        dt := { s.dt with entries := s.loseLink.dt.entries } } := by
  simp only [State.loseLink, State.log, State.record, FaultUnit.appendAll_cons, FaultUnit.appendAll_nil]

theorem loseLink_get (s : State) (j : EntryNo) :
    s.loseLink.dt.entries[j] = s.dt.entries[j].linkLost s.mnt.settings.discardTime.toNat := by
  simp only [State.loseLink, mapTable_get]

theorem loseLink_not_waiting (s : State) (j : EntryNo) : s.loseLink.dt.entries[j].state ≠ .waiting := by
  rw [loseLink_get]
  exact linkLost_not_waiting

/-- What the members of the list leave of the state that has lost the link. -/
def membersSettled (s : State) : State :=
  (s.mli.flights.map FlightMember.ref).foldl State.settleFlight s.loseLink

section Lost

variable (s : State)

/-- R140–R143: entering DOWN, up to the offer, touches the link, the queue, the entries and the Fault Unit alone. -/
theorem loseFlights_eq :
    s.loseLink.loseFlights =
      { s with
        pwq := (membersSettled s).pwq, flt := (membersSettled s).flt
        mli := { state := .down, linkReset := false, credits := 0, tags := Vector.replicate 32 Tag.free,
                 flights := [] }
        dt := { s.dt with entries := (membersSettled s).dt.entries } } := by
  have hflights : s.loseLink.mli.flights = s.mli.flights := by rw [loseLink_frame, MemoryLink.enterDown]
  rw [membersSettled]
  simp only [State.loseFlights, hflights]
  generalize s.mli.flights.map FlightMember.ref = refs
  have hframe := settleFlights_frame s.loseLink refs
  generalize refs.foldl State.settleFlight s.loseLink = t at hframe ⊢
  rw [hframe, loseLink_frame, MemoryLink.enterDown]

theorem membersSettled_pwq (hqueue : s.QueueOrdered) :
    (membersSettled s).pwq = s.pwq.filter (fun w => w.state = .queued) := by
  obtain ⟨hordered, hcount⟩ := hqueue
  have hpwq : s.loseLink.pwq = s.pwq := by rw [loseLink_frame]
  rw [membersSettled, settleFlights_pwq, hpwq, ← postedFlights_eq_count, ← hcount,
    drop_issued_eq_filter_queued hordered]

theorem membersSettled_get (hformed : s.EntriesFormed) (hflights : s.FlightsExact) (j : EntryNo) :
    (membersSettled s).dt.entries[j] = lostAs s s.dt.entries[j] := by
  have hmnt : s.loseLink.mnt = s.mnt := by rw [loseLink_frame]
  rw [membersSettled, settleFlights_get (loseLink_not_waiting s), loseLink_get, hmnt,
    ← linkLost_flightLost_eq_lostAs s (hformed j) rfl]
  simp only [mem_npWrite_iff hflights]

theorem membersSettled_flt (hflights : s.FlightsExact) :
    (membersSettled s).flt =
      s.flt.appendAll
        ({ kind := .linkDown, time := s.ticks, count := some s.mli.flights.length } ::
          lossRecords s (s.mli.flights.map FlightMember.ref) s.pwq) := by
  have honce : ∀ i, (s.mli.flights.map FlightMember.ref).count (.npWrite i) ≤ 1 := fun i => by
    rw [count_npWrite hflights]
    split <;> decide
  have hentries : ∀ i, .npWrite i ∈ s.mli.flights.map FlightMember.ref →
      s.loseLink.dt.entries[i] = s.dt.entries[i] := fun i hi => by
    rw [loseLink_get, linkLost_of_writeInFlight ((mem_npWrite_iff hflights).1 hi)]
  have hticks : s.loseLink.ticks = s.ticks := by rw [loseLink_frame]
  rw [membersSettled, settleFlights_flt (loseLink_not_waiting s) honce, lossRecords_congr hticks hentries,
    loseLink_frame, FaultUnit.appendAll_cons]

end Lost

/-! ## The offer -/

/-- R144: the entries that entering DOWN frees are the ORPHANED ones. -/
theorem freed_eq_ascending {s : State} (hformed : s.EntriesFormed) (hflights : s.FlightsExact) :
    (s.orphans.filter fun i => (membersSettled s).dt.entries[i].state == .free) =
      ascending fun j => s.dt.entries[j].state = .orphaned := by
  have horphans : s.orphans = ascending fun j => s.dt.entries[j].state = .orphaned :=
    entriesWhere_eq_ascending fun _ => beq_iff_eq
  rw [horphans, List.filter_eq_self]
  intro i hi
  rw [membersSettled_get s hformed hflights, beq_iff_eq]
  exact lostAs_free (by simpa [ascending] using hi)

/-- The state of entering DOWN with the ORPHANED entries out of the age order, before they are offered. -/
def orphansFreed (s : State) : State :=
  { s.loseLink.loseFlights with
    dt := { entries := (membersSettled s).dt.entries
            age := s.dt.age.filter (fun j => s.dt.entries[j].state ≠ .orphaned) } }

/-- R39, R144: the ORPHANED entries leave the age order and are offered together. -/
theorem enterDown_eq {s : State} (hformed : s.EntriesFormed) (hflights : s.FlightsExact) :
    s.enterDown =
      ((orphansFreed s).offer (ascending fun j => s.dt.entries[j].state = .orphaned)).settleQuiesce := by
  simp only [State.enterDown, orphansFreed, loseFlights_eq, freed_eq_ascending hformed hflights]
  simp only [ascending, List.mem_filter, List.mem_finRange, true_and, decide_eq_true_eq, ne_eq]

theorem orphansFreed_eq (s : State) :
    orphansFreed s =
      { s with
        pwq := (membersSettled s).pwq, flt := (membersSettled s).flt
        mli := { state := .down, linkReset := false, credits := 0, tags := Vector.replicate 32 Tag.free,
                 flights := [] }
        dt := { entries := (membersSettled s).dt.entries
                age := s.dt.age.filter (fun j => s.dt.entries[j].state ≠ .orphaned) } } := by
  rw [orphansFreed, loseFlights_eq]

section Entered

variable {s : State} (hformed : s.EntriesFormed) (hflights : s.FlightsExact)
include hformed hflights

/-- R140, R142, R143: the link as it stands in DOWN. -/
theorem enterDown_mli :
    s.enterDown.mli =
      { state := .down, linkReset := false, credits := 0, tags := Vector.replicate 32 Tag.free,
        flights := [] } := by
  rw [enterDown_eq hformed hflights, State.settleQuiesce_mli, State.offer_mli, orphansFreed_eq]

theorem enterDown_pwq (hqueue : s.QueueOrdered) :
    s.enterDown.pwq = s.pwq.filter (fun w => w.state = .queued) := by
  rw [enterDown_eq hformed hflights, State.settleQuiesce_pwq, State.offer_pwq, orphansFreed_eq,
    membersSettled_pwq s hqueue]

/-- R80, R144: the Waiting List and the entries are those of the offer of the ORPHANED entries. -/
theorem enterDown_offers :
    (s.enterDown.waiting, s.enterDown.dt.entries) =
      offerAll s.mnt.settings.reservationTime.toNat
        (ascending fun j => s.dt.entries[j].state = .orphaned)
        (s.waiting, (membersSettled s).dt.entries) := by
  rw [enterDown_eq hformed hflights, State.settleQuiesce_waiting, State.settleQuiesce_dt,
    State.offer_waiting, State.offer_entries, orphansFreed_eq]

theorem enterDown_age :
    s.enterDown.dt.age = s.dt.age.filter (fun j => s.dt.entries[j].state ≠ .orphaned) := by
  rw [enterDown_eq hformed hflights, State.settleQuiesce_dt, State.offer_age, orphansFreed_eq]

theorem enterDown_flt : s.enterDown.flt = (membersSettled s).flt := by
  rw [enterDown_eq hformed hflights, State.settleQuiesce_flt, State.offer_flt, orphansFreed_eq]

theorem enterDown_mnt : s.enterDown.mnt = { s.mnt with opState := opAfter s s.enterDown } := by
  rw [enterDown_eq hformed hflights]
  exact settleQuiesce_mnt (by rw [State.offer_mnt, orphansFreed_eq])

/-- Entering DOWN touches the link, the queue, the Waiting List, the Deferral Table, the Fault Unit and the
Maintenance Port alone. -/
theorem enterDown_frame :
    s.enterDown =
      { s with
        mli := s.enterDown.mli, pwq := s.enterDown.pwq, waiting := s.enterDown.waiting
        dt := s.enterDown.dt, flt := s.enterDown.flt, mnt := s.enterDown.mnt } := by
  rw [enterDown_eq hformed hflights, settleQuiesce_frame]
  simp only [State.offer, orphansFreed_eq]

end Entered

/-! ## The statement -/

theorem exec_linkDown_down {s : State} (hdown : s.mli.state = .down) : exec .linkDown s = .next s :=
  congrArg Host.Outcome.next (if_pos (.inr hdown))

theorem exec_linkDown_enters {s : State} (hon : s.powerOn = false) (hlink : s.mli.state ≠ .down) :
    exec .linkDown s = .next s.enterDown :=
  congrArg Host.Outcome.next (if_neg (by simp [hon, hlink]))

/-- Settles O25: each clause is what the loss of the link with its members, the offer of the ORPHANED entries or the
change to QUIESCED leaves. -/
theorem linkDownSettlesAllWorkInFlight : Obligations.LinkDownSettlesAllWorkInFlight := by
  refine ⟨fun s => exec_linkDown_down, fun s hinv hon hlink => ?_⟩
  obtain ⟨-, -, -, -, -, -, -, hformed, -, hqueue, hflights, -⟩ := hinv
  have hmli := enterDown_mli hformed hflights
  refine ⟨_, exec_linkDown_enters hon hlink, congrArg MemoryLink.state hmli, congrArg MemoryLink.linkReset hmli,
    congrArg MemoryLink.credits hmli, congrArg MemoryLink.flights hmli, fun u => ?_,
    enterDown_pwq hformed hflights hqueue,
    ⟨_, membersSettled_get s hformed hflights, enterDown_offers hformed hflights⟩,
    enterDown_age hformed hflights, ?_, enterDown_mnt hformed hflights, enterDown_frame hformed hflights⟩
  · simp [hmli]
  · rw [enterDown_flt hformed hflights, membersSettled_flt s hflights]

end Sys2Proof.LinkDownProofs

/-! # Proofs: the freshness rules

What a write at its ordering point makes of one entry, one equation for each row of the table of R153, then the
records of the whole table. -/

namespace Sys2Proof.FreshnessProofs

open Sys2Proof Sys2Proof.Machine Sys2Proof.Claims Sys2Proof.WindowCommitProofs Sys2Proof.UnawaitedAnswerProofs

theorem fresheningReaches_iff {l : DownLine} {e : Entry} :
    e.fresheningReaches l = true ↔ e.kind = some .read ∧ e.hold = some .coherent ∧ e.line = some l := by
  simp [Entry.fresheningReaches, and_assoc]

/-! ## One entry -/

/-- R152: an NP_WRITE, a SYNC, an AS_FETCHED READ or a READ of another line is not acted on. -/
theorem freshened_of_not_reached {l : DownLine} {e : Entry} (h : ¬ e.fresheningReaches l = true) :
    e.freshened l = e := if_neg h

section Reached

variable {l : DownLine} {e : Entry} (hreached : e.fresheningReaches l = true)
include hreached

/-- R154: below the limit the fetched data is dropped and fetched again. -/
theorem freshened_refetches (hheld : e.state = .held) (hok : e.result = some .ok) (hcount : e.refetch < 3) :
    e.freshened l = e.refetched := by
  simp only [Entry.freshened, hreached, hheld, hok, hcount, if_true]

/-- R156: at the limit the data stays and the mark is set. -/
theorem freshened_marksLimit (hheld : e.state = .held) (hok : e.result = some .ok) (hcount : 3 ≤ e.refetch) :
    e.freshened l = { e with limit := true } := by
  simp only [Entry.freshened, hreached, hheld, hok, Nat.not_lt.2 hcount, if_true, if_false]

theorem freshened_of_failed (hheld : e.state = .held) (hfailed : e.result ≠ some .ok) : e.freshened l = e := by
  simp only [Entry.freshened, hreached, hheld, hfailed, if_true, if_false]

/-- R155: data on its way is stale on arrival. -/
theorem freshened_marksStale (hissued : e.state = .issued) : e.freshened l = { e with stale := true } := by
  simp only [Entry.freshened, hreached, hissued, if_true]

/-- A WAITING entry has yet to fetch its data, and no data of an ORPHANED one reaches a requester (R61). -/
theorem freshened_of_dataless (hstate : e.state = .waiting ∨ e.state = .orphaned ∨ e.state = .free) :
    e.freshened l = e := by
  rcases hstate with h | h | h <;> simp only [Entry.freshened, hreached, h, if_true]

end Reached

/-! ## The records -/

theorem reportsLimit_iff {l : DownLine} {e : Entry} :
    e.reportsLimit l = true ↔
      e.kind = some .read ∧ e.hold = some .coherent ∧ e.line = some l ∧ e.state = .held ∧
        e.result = some .ok ∧ 3 ≤ e.refetch ∧ e.limit = false := by
  simp [Entry.reportsLimit, fresheningReaches_iff, and_assoc]

theorem limitRecord_eq (i : EntryNo) (s : State) :
    s.limitRecord i = { recordOf .refetchLimit i s with count := some s.dt.entries[i].refetch } := by
  rw [State.limitRecord, entryRecord_eq_recordOf]

theorem freshen_flt (l : DownLine) (s : State) :
    (s.freshen l).flt = s.flt.appendAll
      ((entriesWhere (fun e => e.reportsLimit l) s.dt.entries).map fun i => s.limitRecord i) := rfl

/-- R153: the freshness rules touch the Deferral Table and the Fault Unit alone. -/
theorem freshen_frame (l : DownLine) (s : State) :
    s.freshen l = { s with dt := (s.freshen l).dt, flt := (s.freshen l).flt } := rfl

/-! ## The statement -/

/-- Settles O7: each clause on the entries is a row of R153's table, and the entries that report the limit are
those met at count 3 with the mark clear. -/
theorem freshnessActsOnCoherentReads : Obligations.FreshnessActsOnCoherentReads := by
  intro l s reaches
  refine ⟨fun i => ?_, ?_, State.freshen_age l s, freshen_frame l s⟩
  · simp only [State.freshen_get]
    have hreach : reaches s.dt.entries[i] → s.dt.entries[i].fresheningReaches l = true :=
      fresheningReaches_iff.2
    refine ⟨fun hmissed => ?_, fun h => ?_, fun h => ?_, fun h => ?_, fun h => ?_, fun h => ?_⟩
    · exact freshened_of_not_reached fun h => hmissed (fresheningReaches_iff.1 h)
    · exact freshened_refetches (hreach h)
    · exact freshened_marksLimit (hreach h)
    · exact freshened_of_failed (hreach h)
    · exact freshened_marksStale (hreach h)
    · exact freshened_of_dataless (hreach h)
  · rw [freshen_flt, entriesWhere_eq_ascending fun _ => reportsLimit_iff]
    simp only [limitRecord_eq]

end Sys2Proof.FreshnessProofs

/-! # Proofs: LOG_POP and LOG_CLEAR

What the act of each command makes of the Fault Unit. Each settles the unit, which gives ALERT the level of R171;
an empty log without OVERFLOW therefore releases the line. -/

namespace Sys2Proof.LogCommandProofs

open Sys2Proof Sys2Proof.Machine Sys2Proof.Claims Sys2Proof.CommandProofs Sys2Proof.OperatingStateProofs

theorem exec_logPop (d : DeviceAddr) (a : Byte) (s : State) :
    exec (.logPop d a) s = .next (if s.portTakes d then s.takeCommand 3 logPopAct else s) := rfl

theorem exec_logClear (d : DeviceAddr) (a : Byte) (s : State) :
    exec (.logClear d a) s = .next (if s.portTakes d then s.takeCommand 4 logClearAct else s) := rfl

theorem logPopAct_refused {s : State} (h : s.flt.log = []) : logPopAct s = (.state, s) := by
  rw [logPopAct, h]

/-- R166: the oldest record is the head of the log. -/
theorem logPopAct_accepted {s : State} {x : FaultRecord} {rest : List FaultRecord} (h : s.flt.log = x :: rest) :
    logPopAct s = (.ok, { s with flt := { s.flt with log := rest }.settle }) := by
  rw [logPopAct, h]

/-- R171: a log of no records without OVERFLOW calls for no alert, whichever alert-enables are on. -/
theorem level_of_empty {f : FaultUnit} (hlog : f.log = []) (hflag : f.overflow = false) : f.level = false := by
  simp [FaultUnit.level, hlog, hflag]

/-- R167, R171: the Fault Unit that a LOG_CLEAR leaves has its line released. -/
theorem settle_emptied (f : FaultUnit) :
    { f with log := [], overflow := false }.settle =
      { log := [], overflow := false, alertEnable := f.alertEnable, alert := false } := by
  rw [FaultUnit.settle, level_of_empty rfl rfl]

theorem logClearAct_accepted (s : State) :
    logClearAct s = (.ok, { s with flt :=
      { log := [], overflow := false, alertEnable := s.flt.alertEnable, alert := false } }) := by
  rw [logClearAct, settle_emptied]

/-- Settles O36: an empty log refuses LOG_POP as the LOADING test does, and each accepted act is an update of the
Fault Unit alone. -/
theorem logPopAndLogClear : Obligations.LogPopAndLogClear := by
  intro d a s haddressed
  refine ⟨fun hrefused => ?_, fun hloading => ?_, fun hloading => ⟨fun x rest hlog => ?_, ?_⟩⟩
  · rw [exec_logPop, portCommand_refused 3 haddressed fun hloading =>
      logPopAct_refused (hrefused.resolve_left hloading)]
  · rw [exec_logClear, portCommand_loading 4 haddressed hloading]
  · rw [exec_logPop, portCommand_taken 3 haddressed hloading (logPopAct_accepted hlog)]
    exact ⟨_, rfl, rfl, rfl, rfl, rfl, rfl⟩
  · rw [exec_logClear, portCommand_taken 4 haddressed hloading (logClearAct_accepted s)]
    exact ⟨_, rfl, rfl, rfl⟩

end Sys2Proof.LogCommandProofs

/-! # Proofs: what one step can do

Every command is taken apart once, into moves small enough that each of them keeps every invariant.  `Move` lists the
moves; an answer of the Memory Link is a move of its own kind, `Completed` or `Acked`, because what it may do to an
entry hangs on an invariant about tags or members.  `exec_cases` says that a command is at most one answer and then
moves, and `step_keeps` is the induction that every invariant uses. -/

namespace Sys2Proof.MoveProofs

open Sys2Proof Sys2Proof.Machine Sys2Proof.Claims Sys2Proof.UpstreamProofs Sys2Proof.WindowCommitProofs
  Sys2Proof.CommandProofs Sys2Proof.ResetProofs Sys2Proof.RequesterCommitProofs Sys2Proof.LinkDownProofs

/-! ## The moves -/

/-- A change beside the work of the part: of registers, outputs, counters, records and the configuration alone, which
keeps the log within its size, ALERT at its level and the configuration legal. -/
structure Aside (s t : State) : Prop where
  waiting : t.waiting = s.waiting
  dt : t.dt = s.dt
  pwq : t.pwq = s.pwq
  streak : t.streak = s.streak
  mli : t.mli = s.mli
  opState : t.mnt.opState = s.mnt.opState
  held : ∀ r : RequesterNo, t.rqt.requesters[r].held = s.rqt.requesters[r].held
  powerOn : t.powerOn = true → s.powerOn = true
  log : s.flt.log.length ≤ 16 → t.flt.log.length ≤ 16
  alert : s.flt.alert = s.flt.level → t.flt.alert = t.flt.level
  windows : s.WindowsLegal → t.WindowsLegal
  settings : s.SettingsLegal → t.SettingsLegal

/-- Nothing changed; a change is stated by the fields in which it differs from none. -/
theorem Aside.refl (s : State) : Aside s s :=
  { waiting := rfl, dt := rfl, pwq := rfl, streak := rfl, mli := rfl, opState := rfl, held := fun _ => rfl
    powerOn := id, log := id, alert := id, windows := id, settings := id }

/-- The entries that a request creates (R36, R50, R52): a SYNC entry only while the queue holds a record. -/
inductive NewEntry (s : State) : Entry → RequesterNo → Prop
  | read (n : WindowNo) (w : Window) (q : UpRequest) : NewEntry s (readEntry n w q) q.requester
  | npWrite (n : WindowNo) (w : Window) (q : UpRequest) : NewEntry s (npWriteEntry n w q) q.requester
  | sync (r : RequesterNo) (hqueue : s.pwq ≠ []) : NewEntry s (syncEntry r s.pwq.length) r

/-- The link after the test of the quarantine limit (R125).  It is never unfolded but in its two lemmas. -/
@[irreducible] def limited (m : MemoryLink) : MemoryLink := if 8 ≤ m.countTags 2 ∧ m.state = .up then m.leaveUp else m

/-- The entries that entering DOWN frees (R144). -/
def freedByLoss (s : State) : List EntryNo :=
  s.orphans.filter fun i => (membersSettled s).dt.entries[i].state == .free

/-- The state of entering DOWN before the freed entries are offered (R140–R143). -/
def lost (s : State) : State :=
  { s with
    pwq := (membersSettled s).pwq, flt := (membersSettled s).flt
    mli := { state := .down, linkReset := false, credits := 0, tags := Vector.replicate 32 Tag.free,
             flights := [] }
    dt := { entries := (membersSettled s).dt.entries
            age := s.dt.age.filter (fun i => i ∉ freedByLoss s) } }

/-- A requester leaves the Waiting List, its reservation and its held count (R76). -/
def dismissed (r : RequesterNo) (s : State) : State :=
  { s with
    rqt := s.rqt.update r fun q => { q with held := 0 }
    waiting := s.waiting.filter (fun q => q ≠ r)
    dt := s.dt.releaseReservation r }

/-- Every requester leaves them (R84). -/
def allDismissed (s : State) : State :=
  { s with
    waiting := []
    rqt := { s.rqt with requesters := mapTable (fun _ q => { q with held := 0 }) s.rqt.requesters }
    dt := { s.dt with entries := mapTable (fun _ e => e.unreserved) s.dt.entries } }

/-- One move. -/
inductive Move (s : State) : State → Prop
  | aside {t : State} (h : Aside s t) : Move s t
  | enter (o : OpState) (ho : o = .active ∨ o = .quiescing) (hon : s.powerOn = false) :
      Move s { s with mnt := { s.mnt with opState := o } }
  | settleQuiesce : Move s s.settleQuiesce
  | offer (is : List EntryNo) (hfree : ∀ i ∈ is, s.dt.entries[i].state = .free) :
      Move s { s with waiting := (s.offer is).waiting, dt := (s.offer is).dt }
  | join (r : RequesterNo) (hactive : s.mnt.opState = .active) (hnone : s.dt.available r = none) :
      Move s { s with waiting := joinList r s.waiting }
  | create (i : EntryNo) (e : Entry) (r : RequesterNo) (hactive : s.mnt.opState = .active)
      (havailable : s.dt.available r = some i) (hnew : NewEntry s e r)
      (hkey : ∀ j : EntryNo, s.dt.entries[j].live = true → s.dt.entries[j].key ≠ e.key) :
      Move s
        { s with
          rqt := (s.create i e r).rqt, waiting := (s.create i e r).waiting, dt := (s.create i e r).dt }
  | freshen (l : DownLine) : Move s { s with dt := (s.freshen l).dt, flt := (s.freshen l).flt }
  | enqueue (w : PostedWrite) (hactive : s.mnt.opState = .active) (hroom : s.pwq.length < 32)
      (hqueued : w.state = .queued) : Move s { s with pwq := s.pwq ++ [w] }
  | grantWrite (out : Outputs) (h : s.writeEligible = true) :
      Move s
        { s with
          pwq := issueOldest s.pwq, streak := streakUp s.streak, mli := s.joinFlights .posted, out := out }
  | grantRead (i : EntryNo) (t : TagNo) (hup : s.mli.state = .up) (hwaiting : s.dt.entries[i].state = .waiting)
      (hkind : s.dt.entries[i].kind = some .read) (htag : s.mli.tags[t] = .free) :
      Move s
        { s with
          streak := 0, mli := (s.grantRead i t).mli, dt := (s.grantRead i t).dt, out := (s.grantRead i t).out }
  | launch (i : EntryNo) (out : Outputs) (hup : s.mli.state = .up) (hroom : s.mli.flights.length < 16)
      (hwaiting : s.dt.entries[i].state = .waiting) (hkind : s.dt.entries[i].kind = some .npWrite) :
      Move s
        { s with
          streak := 0, mli := s.joinFlights (.npWrite i)
          dt := s.dt.put i { s.dt.entries[i] with state := .issued }, out := out }
  | releaseHeld (i : EntryNo) (hheld : s.dt.entries[i].state = .held) :
      Move s { s with rqt := s.rqt.lowerHeld s.dt.entries [i], dt := s.dt.clear [i] }
  | unreserve (i : EntryNo) (hfree : s.dt.entries[i].state = .free) :
      Move s { s with dt := s.dt.put i s.dt.entries[i].unreserved }
  | freeTag (t : TagNo) (hkept : ∃ r a i, s.mli.tags[t] = .quarantined r a i) :
      Move s { s with mli := s.mli.setTag t .free }
  | timeoutIssued (i : EntryNo) (t : TagNo) (r : RequesterNo) (a : DownAddr)
      (htag : s.dt.entries[i].tag = some t) (hissued : s.dt.entries[i].state = .issued)
      (htimer : s.dt.entries[i].completionTimer = some 0) :
      Move s
        { s with
          dt := s.dt.put i (s.dt.entries[i].enterHeld .timeout s.mnt.settings.discardTime.toNat)
          mli := limited (s.mli.setTag t (.quarantined r a i)) }
  | timeoutOrphan (i : EntryNo) (t : TagNo) (r : RequesterNo) (a : DownAddr)
      (htag : s.dt.entries[i].tag = some t) (horphan : s.dt.entries[i].state = .orphaned) :
      Move s
        { s with
          rqt := s.rqt.lowerHeld s.dt.entries [i], dt := s.dt.clear [i]
          mli := limited (s.mli.setTag t (.quarantined r a i)) }
  | leaveUp (hup : s.mli.state = .up) : Move s { s with mli := s.mli.leaveUp }
  | credit (n : Nat) (hup : s.mli.state = .up) :
      Move s { s with mli := { s.mli with credits := creditUp s.mli.credits n } }
  | comeUp (hon : s.powerOn = false) (hdown : s.mli.state = .down) :
      Move s { s with mli := { s.mli with state := .up } }
  | lose :
      Move s { s with pwq := (lost s).pwq, flt := (lost s).flt, mli := (lost s).mli, dt := (lost s).dt }
  | withdraw (p : Entry → Bool) :
      Move s { s with rqt := (s.withdraw p).rqt, dt := (s.withdraw p).dt, flt := (s.withdraw p).flt }
  | dismiss (r : RequesterNo) (is : List EntryNo)
      (hgone : ∀ i : EntryNo, s.dt.entries[i].requester = some r → s.dt.entries[i].live = false)
      (hoffered : ∀ i ∈ is, s.dt.entries[i].state = .free ∨ s.dt.entries[i].reservedFor = some r) :
      Move s
        { s with
          rqt := (dismissed r s).rqt, waiting := ((dismissed r s).offer is).waiting
          dt := ((dismissed r s).offer is).dt }
  | dismissAll (hgone : ∀ i : EntryNo, s.dt.entries[i].live = false) : 
      Move s { s with waiting := [], rqt := (allDismissed s).rqt, dt := (allDismissed s).dt }
  | clearPath :
      Move s
        { s with
          dt := { entries := Vector.replicate 24 Entry.free, age := [] }, pwq := [], waiting := []
          rqt := (pathCleared s).rqt, streak := 0, mli := (pathCleared s).mli, flt := (pathCleared s).flt }
  | reset : Move s { State.reset with pending := s.pending }
  | tick (hdue : s.mli.state = .up → ∀ f ∈ s.mli.flights.head?, f.elapsed < f.ackTimeout) :
      Move s
        { s with
          ticks := s.ticks + 1, dt := s.tick.dt
          mli := { s.mli with flights := s.mli.flights.map FlightMember.tick } }

/-- What a READ_CPL to a BOUND tag does before its records are logged and a freed entry is offered (R119, R121). -/
inductive Completed (s : State) : State → Prop
  | none : Completed s s
  | issued (t : TagNo) (i : EntryNo) (checkOk : Bool) (st : Status) (data : List Byte)
      (htag : s.mli.tags[t] = .bound i) (hissued : s.dt.entries[i].state = .issued) :
      Completed s
        { s with
          mli := s.mli.setTag t .free
          dt := s.dt.put i (s.dt.entries[i].completed checkOk st data s.mnt.settings.discardTime.toNat) }
  | orphan (t : TagNo) (i : EntryNo) (htag : s.mli.tags[t] = .bound i)
      (horphan : s.dt.entries[i].state = .orphaned) :
      Completed s
        { s with
          rqt := s.rqt.lowerHeld s.dt.entries [i], dt := s.dt.clear [i], mli := s.mli.setTag t .free }

/-- A member that leads to no record and no entry: one that no state of a run has (R127). -/
def Stray (s : State) : FlightRef → Prop
  | .posted => s.pwq = []
  | .npWrite i => s.dt.entries[i].state ≠ .issued ∧ s.dt.entries[i].state ≠ .orphaned

/-- What a WRITE_ACK does before its records are logged and a freed entry is offered (R55, R63, R93). -/
inductive Acked (s : State) : State → Prop
  | none (hempty : s.mli.flights = []) : Acked s s
  | stray (f : FlightMember) (fs : List FlightMember) (hflights : s.mli.flights = f :: fs) (h : Stray s f.ref) :
      Acked s { s with mli := { s.mli with flights := fs } }
  | posted (f : FlightMember) (fs : List FlightMember) (r : RequesterNo) (failed : Bool)
      (hflights : s.mli.flights = f :: fs) (href : f.ref = .posted) (hqueue : s.pwq ≠ []) :
      Acked s
        { s with
          pwq := s.pwq.tail, dt := (s.depart r failed).dt, mli := { s.mli with flights := fs } }
  | issued (f : FlightMember) (fs : List FlightMember) (i : EntryNo) (st : Status)
      (hflights : s.mli.flights = f :: fs) (href : f.ref = .npWrite i)
      (hissued : s.dt.entries[i].state = .issued) :
      Acked s
        { s with
          mli := { s.mli with flights := fs }
          dt := s.dt.put i (s.dt.entries[i].enterHeld st s.mnt.settings.discardTime.toNat) }
  | orphan (f : FlightMember) (fs : List FlightMember) (i : EntryNo) (hflights : s.mli.flights = f :: fs)
      (href : f.ref = .npWrite i) (horphan : s.dt.entries[i].state = .orphaned) :
      Acked s
        { s with
          rqt := s.rqt.lowerHeld s.dt.entries [i], dt := s.dt.clear [i]
          mli := { s.mli with flights := fs } }

/-- Moves, one after the other. -/
abbrev Moves : State → State → Prop := Relation.ReflTransGen Move

theorem Move.moves {s t : State} (h : Move s t) : Moves s t := .single h

/-! ## Changes beside the work -/

theorem aside_log (rs : List FaultRecord) (s : State) : Aside s (s.log rs) :=
  { Aside.refl s with
    log := FaultUnit.appendAll_induct (P := fun f => f.log.length ≤ 16) (fun f r => f.append_length_le r) rs s.flt
    alert := FaultUnit.appendAll_induct (P := fun f => f.alert = f.level) (fun f r _ => f.append_level r) rs s.flt }

theorem aside_answer (a : Response) (s : State) : Aside s (s.answer a) :=
  { Aside.refl s with }

theorem aside_cmdStatus (code : Byte) (o : CmdOutcome) (s : State) : Aside s (s.cmdStatus code o) :=
  { Aside.refl s with }

theorem aside_accessError (s : State) : Aside s s.accessError :=
  { Aside.refl s with }

/-- A Fault Unit that is settled anew, with no more records than before. -/
theorem aside_settled {s : State} {f : FaultUnit} (h : f.log.length ≤ s.flt.log.length) :
    Aside s { s with flt := f.settle } :=
  { Aside.refl s with log := h.trans, alert := fun _ => rfl }

/-- A change of requester records that keeps the held counts and keeps every quota in its range. -/
theorem aside_update {s : State} {r : RequesterNo} {f : Requester → Requester}
    (hheld : ∀ x, (f x).held = x.held)
    (hquota : ∀ x, 1 ≤ x.quota ∧ x.quota ≤ 24 → 1 ≤ (f x).quota ∧ (f x).quota ≤ 24) :
    Aside s { s with rqt := s.rqt.update r f } := by
  refine { Aside.refl s with held := fun q => ?_, settings := fun h => ⟨fun q => ?_, h.2⟩ } <;>
    rw [RequesterTable.update_get] <;> split
  · exact hheld _
  · rfl
  · exact hquota _ (h.1 q)
  · exact h.1 q

theorem aside_countRefusal (r : RequesterNo) (s : State) : Aside s (s.countRefusal r) :=
  aside_update (fun _ => rfl) (fun _ => id)

theorem aside_countDiscard (r : Option RequesterNo) (s : State) : Aside s (s.countDiscard r) := by
  cases r with
  | none => exact .refl s
  | some r => exact aside_update (fun _ => rfl) (fun _ => id)

theorem aside_window {s : State} (n : WindowNo) {w : Window} (h : w.enabled = true → w.legal = true) :
    Aside s { s with wt := { s.wt with windows := s.wt.windows.set n w } } := by
  refine { Aside.refl s with windows := fun hlegal m => ?_ }
  simp only [set_get]
  split
  · exact h
  · exact hlegal m

/-! ## The end of a load -/

/-- A record of an image keeps the configuration legal (R185). -/
def RecordLegal : ImageRecord → Prop
  | .window _ w => w.enabled = true → w.legal = true
  | .requester _ _ q => 1 ≤ q ∧ q ≤ 24
  | .settings t _ _ _ =>
    t.discardTime ≠ 0 ∧ t.completionTimeout ≠ 0 ∧ t.ackTimeout ≠ 0 ∧ t.reservationTime ≠ 0 ∧
      1 ≤ t.writeBurst.toNat ∧ t.writeBurst.toNat ≤ 16

theorem parseWindow_legal {bs : List Byte} {r : ImageRecord} (h : parseWindow bs = some r) : RecordLegal r := by
  unfold parseWindow at h
  split at h
  · split at h
    · cases h
    · split at h
      · cases h
      · next htest =>
        cases h
        simpa [RecordLegal] using htest
  · cases h

theorem parseRequester_legal {bs : List Byte} {r : ImageRecord} (h : parseRequester bs = some r) :
    RecordLegal r := by
  unfold parseRequester at h
  split at h
  · split at h
    · next hquota => cases h; exact hquota
    · cases h
  · cases h

theorem setWidth_ne_zero {x : BitVec 16} (hlow : 1 ≤ x.toNat) (hhigh : x.toNat ≤ 1023) :
    x.setWidth 10 ≠ 0#10 := by
  intro h
  have := congrArg BitVec.toNat h
  simp only [BitVec.toNat_setWidth, BitVec.toNat_ofNat] at this
  omega

theorem setWidth_burst {x : Byte} (hhigh : x.toNat ≤ 16) : (x.setWidth 5).toNat = x.toNat := by
  rw [BitVec.toNat_setWidth]
  omega

theorem parseSettings_legal {bs : List Byte} {r : ImageRecord} (h : parseSettings bs = some r) :
    RecordLegal r := by
  unfold parseSettings at h
  split at h
  · next htests =>
    obtain ⟨hdiscard, hcompletion, hack, hlow, hhigh, hburst, hburst'⟩ := htests
    cases h
    refine ⟨hdiscard, hcompletion, hack, setWidth_ne_zero hlow hhigh, ?_, ?_⟩
    · rwa [setWidth_burst hburst']
    · rwa [setWidth_burst hburst']
  · cases h

theorem parseRecord_legal {bs : List Byte} {r : ImageRecord} (h : parseRecord bs = some r) : RecordLegal r := by
  unfold parseRecord at h
  split at h
  · exact parseWindow_legal h
  · exact parseRequester_legal h
  · exact parseSettings_legal h
  · cases h

theorem parseRecords_legal {n : Nat} {l : List (List Byte)} {rs : List ImageRecord}
    (h : parseRecords n l = .ok rs) : ∀ r ∈ rs, RecordLegal r := by
  intro r hr
  have hmem : some r ∈ l.map parseRecord := parseRecords_eq_ok.1 h ▸ List.mem_map_of_mem hr
  obtain ⟨bs, -, hbs⟩ := List.mem_map.1 hmem
  exact parseRecord_legal hbs

theorem loadOutcome_legal {eeprom : Eeprom} {rs : List ImageRecord} (h : loadOutcome eeprom = .loaded rs) :
    ∀ r ∈ rs, RecordLegal r := by
  cases eeprom with
  | absent => cases h
  | answers bs =>
    simp only [loadOutcome, imageOutcome] at h
    split at h <;> try cases h
    split at h <;> try cases h
    split at h <;> try cases h
    split at h <;> try cases h
    split at h <;> try cases h
    split at h
    · cases h
    · next hparsed => cases h; exact parseRecords_legal hparsed

/-- One record applied, ALERT aside. -/
theorem applyRecord_keeps {r : ImageRecord} (h : RecordLegal r) (s : State) :
    (∀ q : RequesterNo, (s.applyRecord r).rqt.requesters[q].held = s.rqt.requesters[q].held) ∧
      (s.WindowsLegal → (s.applyRecord r).WindowsLegal) ∧
      (s.SettingsLegal → (s.applyRecord r).SettingsLegal) := by
  cases r with
  | window n w => exact ⟨fun _ => rfl, (aside_window n h).windows, id⟩
  | requester r e q =>
    have haside := aside_update (s := s) (r := r) (f := fun x => { x with enabled := e, quota := q })
      (fun _ => rfl) (fun _ _ => h)
    exact ⟨haside.held, id, haside.settings⟩
  | settings t p l a => exact ⟨fun _ => rfl, id, fun hs => ⟨hs.1, h⟩⟩

theorem applyRecords_keeps {rs : List ImageRecord} (h : ∀ r ∈ rs, RecordLegal r) (s : State) :
    (∀ q : RequesterNo, (rs.foldl State.applyRecord s).rqt.requesters[q].held = s.rqt.requesters[q].held) ∧
      (s.WindowsLegal → (rs.foldl State.applyRecord s).WindowsLegal) ∧
      (s.SettingsLegal → (rs.foldl State.applyRecord s).SettingsLegal) := by
  induction rs generalizing s with
  | nil => exact ⟨fun _ => rfl, id, id⟩
  | cons r rs ih =>
    obtain ⟨hr, hrs⟩ := List.forall_mem_cons.1 h
    obtain ⟨hheld, hwindows, hsettings⟩ := applyRecord_keeps hr s
    obtain ⟨ihheld, ihwindows, ihsettings⟩ := ih hrs (s.applyRecord r)
    exact ⟨fun q => (ihheld q).trans (hheld q), ihwindows ∘ hwindows, ihsettings ∘ hsettings⟩

/-- R186: an image sets the configuration alone. -/
theorem applyRecords_work (rs : List ImageRecord) (s : State) :
    (rs.foldl State.applyRecord s).waiting = s.waiting ∧ (rs.foldl State.applyRecord s).dt = s.dt ∧
      (rs.foldl State.applyRecord s).pwq = s.pwq ∧ (rs.foldl State.applyRecord s).streak = s.streak ∧
      (rs.foldl State.applyRecord s).mli = s.mli ∧
      (rs.foldl State.applyRecord s).mnt.opState = s.mnt.opState ∧
      (rs.foldl State.applyRecord s).powerOn = s.powerOn ∧
      (rs.foldl State.applyRecord s).flt.log = s.flt.log := by
  obtain ⟨-, -, hframe⟩ := s.applyRecords_frame rs
  generalize rs.foldl State.applyRecord s = u at hframe ⊢
  rw [hframe]
  exact ⟨rfl, rfl, rfl, rfl, rfl, rfl, rfl, rfl⟩

/-- The end of a load but for the change to ACTIVE. -/
def loaded (o : LoadOutcome) (s : State) : State :=
  { s.applyLoad o with
    mnt := { (s.applyLoad o).mnt with loadStatus := o.status }, flt := (s.applyLoad o).flt.settle }

theorem endLoad_eq (o : LoadOutcome) (s : State) :
    s.endLoad o = { loaded o s with mnt := { (loaded o s).mnt with opState := .active } } := rfl

theorem aside_loaded {o : LoadOutcome} (h : ∀ rs, o = .loaded rs → ∀ r ∈ rs, RecordLegal r) (s : State) :
    Aside s (loaded o s) := by
  cases o with
  | absent => exact { Aside.refl s with alert := fun _ => rfl }
  | bad n => exact { Aside.refl s with log := (aside_log _ s).log, alert := fun _ => rfl }
  | loaded rs =>
    obtain ⟨hheld, hwindows, hsettings⟩ := applyRecords_keeps (h rs rfl) s
    obtain ⟨hwaiting, hdt, hpwq, hstreak, hmli, hop, hon, hlog⟩ := applyRecords_work rs s
    exact
      { waiting := hwaiting, dt := hdt, pwq := hpwq, streak := hstreak, mli := hmli, opState := hop, held := hheld
        powerOn := hon.symm.trans, log := (le_of_eq_of_le (congrArg List.length hlog) ·)
        alert := fun _ => rfl, windows := hwindows, settings := hsettings }

end Sys2Proof.MoveProofs

/-! # Proofs: each command is a run of moves -/

namespace Sys2Proof.MoveProofs

open Sys2Proof Sys2Proof.Machine Sys2Proof.Claims Sys2Proof.UpstreamProofs Sys2Proof.WindowCommitProofs
  Sys2Proof.CommandProofs Sys2Proof.ResetProofs Sys2Proof.RequesterCommitProofs Sys2Proof.LinkDownProofs
  Sys2Proof.FreshnessProofs

/-! ## Freed entries -/

/-- R42, R179: freed entries are offered, and the part may become QUIESCED. -/
theorem offered_moves {s : State} {is : List EntryNo} (h : ∀ i ∈ is, s.dt.entries[i].state = .free) :
    Moves s (s.offer is).settleQuiesce :=
  (Move.offer is h).moves.tail (.settleQuiesce (s := s.offer is))

theorem release_free (i : EntryNo) (s : State) : ∀ j ∈ [i], (s.release [i]).dt.entries[j].state = .free := by
  intro j hj
  rw [State.release_dt, DeferralTable.clear_get, if_pos hj]
  rfl

theorem freed_moves {i : EntryNo} {s u : State} (h : Moves s (u.release [i])) : Moves s (u.freeEntry i) :=
  h.trans (offered_moves (release_free i u))

theorem freeEntry_moves {i : EntryNo} {s : State} (h : s.dt.entries[i].state = .held) :
    Moves s (s.freeEntry i) :=
  freed_moves (Move.releaseHeld i h).moves

theorem withdrawn_free {p : Entry → Bool} {s : State} {i : EntryNo} (h : i ∈ s.withdrawalFreed p) :
    (s.withdraw p).dt.entries[i].state = .free := by
  have hi : p s.dt.entries[i] = true ∧ s.dt.entries[i].withdrawalFrees = true := by
    simpa using mem_entriesWhere.1 h
  rw [State.withdraw_get, if_pos hi.1, withdrawn_eq_withdrawnAs, withdrawnAs,
    if_pos (withdrawalFrees_iff.1 hi.2)]
  rfl

theorem freshen_moves (l : DownLine) (s : State) : Moves s (s.freshen l) := (Move.freshen l).moves

theorem withdraw_moves (p : Entry → Bool) (s : State) : Moves s (s.withdraw p) := (Move.withdraw p).moves

/-! ## UPSTREAM_REQUEST -/

/-- What the decode can decide. -/
theorem decode_cases (checkOk dataOk : Bool) (q : UpRequest) (s : State) :
    (∃ a record, decode checkOk dataOk q s = .answer a record) ∨
      s.mnt.opState ≠ .loading ∧
        ((∃ w, decode checkOk dataOk q s = .post (postedWrite w q) ∧ s.turnsAway = false ∧ s.pwq.length < 32) ∨
          (∃ e, decode checkOk dataOk q s = .handOver e ∧ NewEntry s e q.requester ∧ e.key ≠ none) ∨
          decode checkOk dataOk q s = .sync ∨ decode checkOk dataOk q s = .unnamedWriteMode) := by
  unfold decode
  split
  · exact .inl ⟨_, _, rfl⟩
  next hloading =>
  split
  · exact .inl ⟨_, _, rfl⟩
  split
  · exact .inl ⟨_, _, rfl⟩
  split
  · exact .inl ⟨_, _, rfl⟩
  split
  · exact .inr ⟨hloading, .inr (.inr (.inl rfl))⟩
  split
  · exact .inl ⟨_, _, missDecision_eq q s⟩
  next n _ =>
  unfold claimedDecision
  split
  · split
    · unfold writeDecision
      dsimp only
      split
      · exact .inl ⟨_, _, rfl⟩
      · split
        · unfold postedDecision
          split
          · exact .inl ⟨_, _, rfl⟩
          next haway =>
          split
          · exact .inl ⟨_, _, rfl⟩
          next hroom =>
          exact .inr ⟨hloading, .inl ⟨_, rfl, Bool.eq_false_iff.2 haway, Nat.not_le.1 hroom⟩⟩
        · exact .inl ⟨_, _, rfl⟩
      · split
        · exact .inr ⟨hloading, .inr (.inl ⟨_, rfl, .npWrite n _ q, Option.some_ne_none _⟩)⟩
        · exact .inl ⟨_, _, rfl⟩
      · exact .inr ⟨hloading, .inr (.inr (.inr rfl))⟩
    · exact .inr ⟨hloading, .inr (.inl ⟨_, rfl, .read n _ q, Option.some_ne_none _⟩)⟩
  · exact .inl ⟨_, _, rfl⟩

/-- R177: a part that is not LOADING and does not turn new work away is ACTIVE. -/
theorem active_of_takes {s : State} (hloading : s.mnt.opState ≠ .loading) (haway : s.turnsAway = false) :
    s.mnt.opState = .active := by
  cases hop : s.mnt.opState with
  | loading => exact absurd hop hloading
  | active => rfl
  | quiescing | quiesced => simp [State.turnsAway, hop] at haway

theorem answer_moves (a : Response) (s : State) : Moves s (s.answer a) := (Move.aside (aside_answer a s)).moves

theorem answered_moves {s t : State} (a : Response) (h : Moves s t) : Moves s (t.answer a) :=
  h.tail (.aside (aside_answer a t))

theorem matched_moves (i : EntryNo) (q : UpRequest) (s : State) : Moves s (s.matched i q) := by
  unfold State.matched
  split
  · next hheld => exact answered_moves _ (freeEntry_moves hheld)
  · exact answer_moves _ s

theorem seekEntry_moves {s : State} {e : Entry} {r : RequesterNo} (hactive : s.mnt.opState = .active)
    (hnew : NewEntry s e r) (hkey : ∀ j : EntryNo, s.dt.entries[j].live = true → s.dt.entries[j].key ≠ e.key) :
    Moves s (s.seekEntry e r) := by
  unfold State.seekEntry State.admission
  split
  · exact answered_moves _ (Move.aside (aside_countRefusal r s)).moves
  · next hadmission =>
    split at hadmission
    · cases hadmission
    · split at hadmission
      · next hnone =>
        exact answered_moves _ ((Move.aside (aside_countRefusal r s)).moves.tail
          (Move.join (s := s.countRefusal r) r hactive hnone))
      · cases hadmission
  · next i hadmission =>
    split at hadmission
    · cases hadmission
    · split at hadmission
      · cases hadmission
      · next havailable =>
        cases hadmission
        exact answered_moves _ (Move.create i e r hactive havailable hnew hkey).moves

theorem handOver_moves {s : State} {e : Entry} {q : UpRequest} (hloading : s.mnt.opState ≠ .loading)
    (hnew : NewEntry s e q.requester) (hkeyed : e.key ≠ none) : Moves s (s.handOver e q) := by
  obtain ⟨k, hk⟩ := Option.ne_none_iff_exists'.1 hkeyed
  unfold State.handOver
  rw [hk, Option.bind_some]
  split
  · exact matched_moves _ q s
  · next hnone =>
    unfold State.miss
    split
    · exact answer_moves _ s
    split
    · exact answer_moves _ s
    next haway =>
    refine seekEntry_moves (active_of_takes hloading (Bool.eq_false_iff.2 haway)) hnew ?_
    rw [hk]
    exact DeferralTable.matching_none.1 hnone

theorem syncRequest_moves {s : State} {q : UpRequest} (hloading : s.mnt.opState ≠ .loading) :
    Moves s (s.syncRequest q) := by
  unfold State.syncRequest
  split
  · exact matched_moves _ q s
  next hnone =>
  split
  · exact answer_moves _ s
  next hqueue =>
  split
  · exact answer_moves _ s
  split
  · exact answer_moves _ s
  next haway =>
  exact seekEntry_moves (active_of_takes hloading (Bool.eq_false_iff.2 haway)) (.sync _ hqueue)
    (DeferralTable.matching_none.1 hnone)

theorem accept_moves {s : State} {w : PostedWrite} (hactive : s.mnt.opState = .active)
    (hroom : s.pwq.length < 32) (hqueued : w.state = .queued) : Moves s (s.accept w) := by
  have hfreshened := freshen_moves (downLine w.address) s
  generalize hu : s.freshen (downLine w.address) = u at hfreshened
  have hpwq : u.pwq = s.pwq := by rw [← hu, State.freshen_pwq]
  have hmnt : u.mnt = s.mnt := by rw [← hu, State.freshen_mnt]
  rw [State.accept, hu, ← hpwq]
  exact answered_moves _ (hfreshened.tail
    (.enqueue w (hmnt ▸ hactive) (hpwq ▸ hroom) hqueued))

theorem upstreamRequest_moves {q : UpRequest} {s t : State} (h : exec (.upstreamRequest q) s = .next t) :
    Moves s t := by
  rw [exec_upstreamRequest, State.request] at h
  obtain ⟨a, record, hd⟩ | ⟨hloading, ⟨w, hd, haway, hroom⟩ | ⟨e, hd, hnew, hkeyed⟩ | hd | hd⟩ :=
    decode_cases (requestCheckPasses q) (dataCheckPasses q) q s <;> rw [hd] at h
  · cases h
    exact answered_moves _ (Move.aside (aside_log _ s)).moves
  · cases h
    exact accept_moves (active_of_takes hloading haway) hroom rfl
  · cases h
    exact handOver_moves hloading hnew hkeyed
  · cases h
    exact syncRequest_moves hloading
  · cases h

/-! ## ARBITER_GRANT -/

/-- A granted write candidate was eligible. -/
theorem grantDecision_write {s : State} {w : PostedWrite} (h : s.grantDecision = .write w) :
    s.writeEligible = true := by
  unfold State.grantDecision at h
  split at h
  · cases h
  split at h
  · split at h
    · next heligible => exact heligible.1
    · cases h
  · split at h
    · next heligible => exact heligible
    · cases h

theorem deferralEligible_iff {i : EntryNo} {s : State} :
    s.deferralEligible i = true ↔
      s.dt.entries[i].state = .waiting ∧ 0 < s.mli.credits ∧ hazardBlocked s.pwq s.dt.entries[i] = false ∧
        (s.dt.entries[i].kind = some .read ∧ s.mli.lowestFreeTag.isSome = true ∨
          s.dt.entries[i].kind = some .npWrite ∧ s.mli.flights.length < 16) := by
  simp [State.deferralEligible, MemoryLink.hasRoom, and_assoc]

/-- R149: the freshness rules leave the entry whose write they act for. -/
theorem freshened_of_not_read {l : DownLine} {e : Entry} (h : e.kind ≠ some .read) : e.freshened l = e :=
  freshened_of_not_reached fun hreached => h (fresheningReaches_iff.1 hreached).1

theorem freshen_entry_of_npWrite {i : EntryNo} {l : DownLine} {s : State}
    (hkind : s.dt.entries[i].kind = some .npWrite) : (s.freshen l).dt.entries[i] = s.dt.entries[i] := by
  rw [State.freshen_get]
  exact freshened_of_not_read (hkind.trans_ne (by decide))

/-- The grant of an NP_WRITE is the ordering point of its write, and then its launch. -/
theorem grantNpWrite_eq {i : EntryNo} {s : State} (hkind : s.dt.entries[i].kind = some .npWrite) :
    s.grantNpWrite i =
      { s.freshen (s.dt.entries[i].line.getD 0) with
        streak := 0
        mli := (s.freshen (s.dt.entries[i].line.getD 0)).joinFlights (.npWrite i)
        dt := (s.freshen (s.dt.entries[i].line.getD 0)).dt.put i
          { (s.freshen (s.dt.entries[i].line.getD 0)).dt.entries[i] with state := .issued }
        out := (s.grantNpWrite i).out } := by
  have hentry := freshen_entry_of_npWrite (l := s.dt.entries[i].line.getD 0) hkind
  simp only [State.grantNpWrite, hentry, State.joinFlights, State.freshen_mli, State.freshen_ticks,
    State.freshen_mnt]

theorem grantEntry_moves {i : EntryNo} {s : State} (hup : s.mli.state = .up)
    (heligible : s.deferralEligible i = true) : Moves s (s.grantEntry i) := by
  obtain ⟨hwaiting, -, -, hkind⟩ := deferralEligible_iff.1 heligible
  unfold State.grantEntry
  rcases hkind with ⟨hread, -⟩ | ⟨hnp, hroom⟩
  · rw [if_neg (hread.trans_ne (by decide))]
    split
    · next t ht => exact (Move.grantRead i t hup hwaiting hread (MemoryLink.lowestFreeTag_eq_some.1 ht).1).moves
    · exact .refl
  · have hentry := freshen_entry_of_npWrite (l := s.dt.entries[i].line.getD 0) hnp
    have hmli := s.freshen_mli (s.dt.entries[i].line.getD 0)
    have hfreshened := freshen_moves (s.dt.entries[i].line.getD 0) s
    rw [if_pos hnp, grantNpWrite_eq hnp]
    generalize s.freshen (s.dt.entries[i].line.getD 0) = u at hentry hmli hfreshened ⊢
    exact hfreshened.tail (.launch i _ (hmli ▸ hup) (hmli ▸ hroom) (hentry ▸ hwaiting) (hentry ▸ hnp))

theorem grant_moves (s : State) : Moves s s.grant := by
  unfold State.grant
  split
  · next w hw => exact (Move.grantWrite (s.grantWrite w).out (grantDecision_write hw)).moves
  · next i hi =>
    obtain ⟨hup, -, heligible⟩ := State.grantDecision_entry hi
    exact grantEntry_moves hup heligible
  · exact .refl

/-! ## The timers -/

/-- The records of the quarantine limit. -/
def limitRecords (t : TagNo) (ticks : BitVec 32) (m : MemoryLink) : List FaultRecord :=
  if 8 ≤ m.countTags 2 ∧ m.state = .up then
    [{ kind := .quarantineLimit, time := ticks, tag := some t, count := some (m.countTags 2) }]
  else []

/-- R125: the test of the quarantine limit acts on the link and the log alone. -/
theorem quarantineLimit_eq_limited (t : TagNo) (s : State) :
    s.quarantineLimit t =
      { s with mli := limited s.mli, flt := s.flt.appendAll (limitRecords t s.ticks s.mli) } := by
  unfold State.quarantineLimit limited limitRecords
  split <;> rfl

/-- The change to QUIESCED reads neither the link nor the log. -/
theorem settleQuiesce_link (m : MemoryLink) (f : FaultUnit) (s : State) :
    State.settleQuiesce { s with mli := m, flt := f } = { s.settleQuiesce with mli := m, flt := f } := by
  unfold State.settleQuiesce
  split
  · next h => rw [if_pos (show s.mnt.opState = _ ∧ s.allFree = true ∧ s.pwq = [] from h)]
  · next h => rw [if_neg (show ¬ (s.mnt.opState = _ ∧ s.allFree = true ∧ s.pwq = []) from h)]

theorem freeEntry_link (i : EntryNo) (m : MemoryLink) (f : FaultUnit) (s : State) :
    State.freeEntry i { s with mli := m, flt := f } = { s.freeEntry i with mli := m, flt := f } :=
  settleQuiesce_link m f ((s.release [i]).offer [i])

theorem release_link (is : List EntryNo) (m : MemoryLink) (rs : List FaultRecord) (s : State) :
    State.release is { s with mli := m, flt := s.flt.appendAll rs } =
      State.log rs { s with rqt := s.rqt.lowerHeld s.dt.entries is, dt := s.dt.clear is, mli := m } := by
  simp only [State.release, State.log]

/-- The tag of a timed-out READ with what it keeps (R122). -/
def quarantineOf (i : EntryNo) (s : State) : Tag :=
  .quarantined (s.dt.entries[i].requester.getD 0) (s.dt.entries[i].down.getD 0) i

/-- The records of a read timeout, that of the quarantine limit behind its own (R122, R125). -/
def timeoutRecords (i : EntryNo) (t : TagNo) (s : State) : List FaultRecord :=
  { s.entryRecord .readTimeout i with tag := some t } ::
    limitRecords t s.ticks (s.mli.setTag t (quarantineOf i s))

theorem readTimeout_issued {i : EntryNo} {t : TagNo} {s : State} (h : s.dt.entries[i].state = .issued) :
    s.readTimeout i t =
      { s with
        dt := s.dt.put i (s.dt.entries[i].enterHeld .timeout s.mnt.settings.discardTime.toNat)
        mli := limited (s.mli.setTag t (quarantineOf i s)), flt := s.flt.appendAll (timeoutRecords i t s) } := by
  simp only [State.readTimeout, if_pos h, quarantineLimit_eq_limited]
  rfl

theorem readTimeout_orphaned {i : EntryNo} {t : TagNo} {s : State} (h : s.dt.entries[i].state = .orphaned) :
    s.readTimeout i t =
      { s.freeEntry i with
        mli := limited (s.mli.setTag t (quarantineOf i s)), flt := s.flt.appendAll (timeoutRecords i t s) } := by
  have hissued : s.dt.entries[i].state ≠ .issued := h.trans_ne (by decide)
  have hlink := freeEntry_link i (s.mli.setTag t (quarantineOf i s))
    (s.flt.append { s.entryRecord .readTimeout i with tag := some t }) s
  simp only [State.readTimeout, if_neg hissued, quarantineLimit_eq_limited]
  refine (congrArg (fun u : State =>
    { u with mli := limited u.mli, flt := u.flt.appendAll (limitRecords t u.ticks u.mli) }) hlink).trans ?_
  rw [State.freeEntry_eq]
  rfl

theorem readTimeout_moves {i : EntryNo} {t : TagNo} {s : State}
    (hstate : s.dt.entries[i].state = .issued ∨ s.dt.entries[i].state = .orphaned)
    (htimer : s.dt.entries[i].completionTimer = some 0) (htag : s.dt.entries[i].tag = some t) :
    Moves s (s.readTimeout i t) := by
  rcases hstate with h | h
  · rw [readTimeout_issued h]
    exact (Move.timeoutIssued i t _ _ htag h htimer).moves.tail (.aside (aside_log (timeoutRecords i t s) _))
  · rw [readTimeout_orphaned h, ← freeEntry_link]
    refine freed_moves ?_
    rw [release_link]
    exact (Move.timeoutOrphan i t _ _ htag h).moves.tail (.aside (aside_log _ _))

theorem ackTimeout_moves (s : State) : Moves s s.ackTimeout := by
  obtain h | ⟨f, fs, -, -, hup, h⟩ := s.ackTimeout_cases
  · rw [h]
  · rw [h]
    exact (Move.aside (aside_log _ s)).moves.tail (Move.leaveUp (s := s.log _) hup)

theorem countDiscard_dt (r : Option RequesterNo) (s : State) : (s.countDiscard r).dt = s.dt := by
  cases r <;> rfl

theorem discard_moves {i : EntryNo} {s : State} (h : s.dt.entries[i].state = .held) : Moves s (s.discard i) := by
  refine .head (.aside (aside_log _ s)) (.head (.aside (aside_countDiscard _ _)) (freeEntry_moves ?_))
  rw [countDiscard_dt]
  exact h

theorem reservationExpiry_moves {i : EntryNo} {s : State} (h : s.dt.entries[i].state = .free) :
    Moves s (s.reservationExpiry i) := by
  refine .tail (Move.unreserve i h).moves (.offer [i] fun j hj => ?_)
  obtain rfl := List.mem_singleton.1 hj
  simpa using h

theorem expire_moves (x : Timer) (s : State) : Moves s (s.expire x) := by
  obtain h | ⟨i, u, -, hstate, htimer, htag, h⟩ | ⟨f, fs, hx, -, -, -, -⟩ | ⟨i, -, hheld, -, h⟩ |
    ⟨i, -, hfree, -, h⟩ := s.expire_cases x
  · rw [h]
  · rw [h]
    exact readTimeout_moves hstate htimer htag
  · cases x with
    | acknowledgement => exact ackTimeout_moves s
    | completion | discard | reservation => exact Timer.noConfusion hx
  · rw [h]
    exact discard_moves hheld
  · rw [h]
    exact reservationExpiry_moves hfree

theorem takeDue_moves (s : State) : Moves s s.takeDue :=
  State.takeDue_induct (P := Moves s) (fun x u h => h.trans (expire_moves x u)) .refl

end Sys2Proof.MoveProofs

/-! ## The tick -/

namespace Sys2Proof.MoveProofs

open Sys2Proof Sys2Proof.Machine Sys2Proof.Claims Sys2Proof.UpstreamProofs Sys2Proof.WindowCommitProofs
  Sys2Proof.CommandProofs Sys2Proof.ResetProofs Sys2Proof.RequesterCommitProofs Sys2Proof.LinkDownProofs
  Sys2Proof.UnawaitedAnswerProofs

theorem freeEntry_mli (i : EntryNo) (s : State) : (s.freeEntry i).mli = s.mli := by
  rw [State.freeEntry_eq]

theorem countDiscard_mli (r : Option RequesterNo) (s : State) : (s.countDiscard r).mli = s.mli := by
  cases r <;> rfl

theorem expireDiscard_mli (i : EntryNo) (s : State) : (s.expireDiscard i).mli = s.mli := by
  obtain h | ⟨-, -, h⟩ := s.expireDiscard_cases i
  · rw [h]
  · rw [h, State.discard, freeEntry_mli, countDiscard_mli, State.log_mli]

theorem expireReservation_mli (i : EntryNo) (s : State) : (s.expireReservation i).mli = s.mli := by
  obtain h | ⟨-, -, h⟩ := s.expireReservation_cases i
  · rw [h]
  · rw [h]
    rfl

/-- What one expiry keeps, a row of them keeps. -/
theorem foldl_keeps {α β : Type} {f : State → α → State} {g : State → β}
    (h : ∀ i s, g (f s i) = g s) (is : List α)
    (s : State) : g (is.foldl f s) = g s := by
  induction is generalizing s with
  | nil => rfl
  | cons i is ih => rw [List.foldl_cons, ih, h]

/-- R130, R188: behind the expiries of a tick no head is due while the link is UP. -/
theorem takeDue_head (s : State) (hup : s.takeDue.mli.state = .up) :
    ∀ f ∈ s.takeDue.mli.flights.head?, f.elapsed < f.ackTimeout := by
  rw [State.takeDue_eq] at hup ⊢
  rw [foldl_keeps expireReservation_mli, foldl_keeps expireDiscard_mli] at hup ⊢
  obtain ⟨hsame, hhead⟩ := State.ackTimeout_settled _ hup
  rw [hsame]
  exact hhead

theorem tick_moves (s : State) : Moves s s.takeDue.tick := (takeDue_moves s).tail (.tick (takeDue_head s))

/-! ## The commands of the port -/

theorem cmdStatus_moves {s t : State} (code : Byte) (o : CmdOutcome) (h : Moves s t) :
    Moves s (t.cmdStatus code o) := h.tail (.aside (aside_cmdStatus code o t))

theorem takeCommand_moves {s : State} (code : Byte) {act : State → CmdOutcome × State}
    (h : Moves s (act s).2) : Moves s (s.takeCommand code act) := by
  unfold State.takeCommand
  split
  · exact cmdStatus_moves _ _ .refl
  · exact cmdStatus_moves _ _ h

theorem windowCommitAct_moves (a : Byte) (s : State) : Moves s (windowCommitAct a s).2 := by
  unfold windowCommitAct
  split
  · exact .refl
  · next n _ =>
    split
    · exact .refl
    · next htest =>
      have hlegal : s.wt.staging.enabled = true → s.wt.staging.legal = true := by simpa using htest
      rw [windowCommitted_eq]
      refine .trans ((withdraw_moves (createdUnder n) s).trans (Move.aside (aside_window n hlegal)).moves)
        (offered_moves fun i hi => ?_)
      exact withdrawn_free hi

/-- R76: nothing live is left of a requester whose entries are withdrawn. -/
theorem withdrawn_requester_gone (r : RequesterNo) (s : State) (i : EntryNo)
    (hr : (s.withdraw (requestedBy r)).dt.entries[i].requester = some r) :
    (s.withdraw (requestedBy r)).dt.entries[i].live = false := by
  rw [State.withdraw_get] at hr ⊢
  split at hr
  · next h => rw [if_pos h, Entry.withdrawn_not_live]
  · next h => exact absurd (requestedBy_iff.2 hr) h

theorem withdrawn_reservedFor {e : Entry} (h : e.withdrawalFrees = false) :
    e.withdrawn.reservedFor = e.reservedFor := by
  unfold Entry.withdrawn
  cases he : e.state with
  | waiting | held => simp [Entry.withdrawalFrees, he] at h
  | issued | orphaned | free => rfl

/-- R74: an accepted commit writes a quota in its range. -/
theorem aside_writeRequester {s : State} (r : RequesterNo) (hlow : 1 ≤ s.rqt.staging.quota.toNat)
    (hhigh : s.rqt.staging.quota.toNat ≤ 24) : Aside s (s.writeRequester r) :=
  aside_update (f := fun q => { q with enabled := s.rqt.staging.enabled, quota := s.rqt.staging.quota.toNat })
    (fun _ => rfl) fun _ _ => ⟨hlow, hhigh⟩

theorem disabled_moves {r : RequesterNo} {s : State} (hlow : 1 ≤ s.rqt.staging.quota.toNat)
    (hhigh : s.rqt.staging.quota.toNat ≤ 24) : Moves s ((s.writeRequester r).disableRequester r) := by
  refine .head (.aside (aside_writeRequester r hlow hhigh)) (.head (.withdraw (requestedBy r)) ?_)
  refine .tail (Move.dismiss r (offeredByDisable r s)
    (withdrawn_requester_gone r (s.writeRequester r)) fun i hi => ?_).moves .settleQuiesce
  have hi := mem_entriesWhere.1 hi
  rw [State.withdraw_get]
  by_cases hfreed : requestedBy r s.dt.entries[i] = true ∧ s.dt.entries[i].withdrawalFrees = true
  · exact .inl (State.withdraw_get .. ▸ withdrawn_free (s := s) (p := requestedBy r)
      (mem_entriesWhere.2 (by simpa using hfreed)))
  · have hreserved : s.dt.entries[i].reservedFor = some r := by
      rw [Bool.or_eq_true, Bool.and_eq_true, beq_iff_eq] at hi
      exact hi.resolve_left hfreed
    right
    split
    · next hp =>
      exact (withdrawn_reservedFor (Bool.eq_false_iff.2 fun h => hfreed ⟨hp, h⟩)).trans hreserved
    · exact hreserved

theorem requesterCommitAct_moves (a : Byte) (s : State) : Moves s (requesterCommitAct a s).2 := by
  unfold requesterCommitAct
  split
  · exact .refl
  · next r _ =>
    split
    · exact .refl
    · next hquota =>
      have hlow : 1 ≤ s.rqt.staging.quota.toNat := by omega
      have hhigh : s.rqt.staging.quota.toNat ≤ 24 := by omega
      split
      · exact (Move.aside (aside_writeRequester r hlow hhigh)).moves
      · exact disabled_moves hlow hhigh

theorem logPopAct_moves (s : State) : Moves s (logPopAct s).2 := by
  unfold logPopAct
  split
  · exact .refl
  · next x rest hlog =>
    exact (Move.aside (aside_settled (f := { s.flt with log := rest }) (by simp [hlog]))).moves

theorem logClearAct_moves (s : State) : Moves s (logClearAct s).2 :=
  (Move.aside (aside_settled (f := { s.flt with log := [], overflow := false }) (Nat.zero_le _))).moves

theorem counterClearAct_moves (a : Byte) (s : State) : Moves s (counterClearAct a s).2 := by
  unfold counterClearAct
  split
  · exact .refl
  · exact (Move.aside (aside_update (f := fun q => { q with refusals := 0, discards := 0 }) (fun _ => rfl)
      fun _ => id)).moves

theorem entryViewAct_moves (a : Byte) (s : State) : Moves s (entryViewAct a s).2 := by
  unfold entryViewAct
  split
  · exact .refl
  · exact Move.moves (.aside { Aside.refl s with })

theorem quiesceAct_moves {s : State} (hon : s.powerOn = false) : Moves s (quiesceAct s).2 := by
  unfold quiesceAct
  split
  · exact (Move.enter .quiescing (.inr rfl) hon).moves.tail .settleQuiesce
  · exact .refl

theorem resumeAct_moves {s : State} (hon : s.powerOn = false) : Moves s (resumeAct s).2 := by
  unfold resumeAct
  split
  · exact (Move.enter .active (.inl rfl) hon).moves
  · exact .refl

theorem pathResetAct_moves (s : State) : Moves s (pathResetAct s).2 := by
  rw [pathResetAct_eq]
  exact Move.clearPath.moves.tail .settleQuiesce

theorem linkResetAct_moves (s : State) : Moves s (linkResetAct s).2 := by
  unfold linkResetAct
  split
  · next hup => exact (Move.leaveUp hup).moves
  · exact .refl

theorem commandWrite_moves {s : State} (hon : s.powerOn = false) (code arg : Byte) :
    Moves s (s.commandWrite code arg) := by
  unfold State.commandWrite
  split
  · exact takeCommand_moves _ (windowCommitAct_moves arg s)
  · exact takeCommand_moves _ (requesterCommitAct_moves arg s)
  · exact takeCommand_moves _ (logPopAct_moves s)
  · exact takeCommand_moves _ (logClearAct_moves s)
  · exact takeCommand_moves _ (counterClearAct_moves arg s)
  · exact takeCommand_moves _ (entryViewAct_moves arg s)
  · exact takeCommand_moves _ (quiesceAct_moves hon)
  · exact takeCommand_moves _ (resumeAct_moves hon)
  · exact takeCommand_moves _ (pathResetAct_moves s)
  · exact takeCommand_moves _ (linkResetAct_moves s)
  · exact takeCommand_moves _ .refl

/-! ## The register writes -/

theorem aside_writeSetting {s : State} {inRange : Bool} {f : Settings → Settings}
    (h : inRange = true → s.SettingsLegal →
      State.SettingsLegal { s with mnt := { s.mnt with settings := f s.mnt.settings } }) :
    Aside s (s.writeSetting inRange f) := by
  unfold State.writeSetting
  split
  · next hrange => exact { Aside.refl s with settings := h hrange }
  · exact aside_accessError s

theorem aside_writePathCtrl (v : Word) (s : State) : Aside s (s.writePathCtrl v) := by
  unfold State.writePathCtrl
  dsimp only
  split
  · next hburst =>
    exact { Aside.refl s with settings := fun ⟨hquota, hd, hc, ha, hr, _⟩ => ⟨hquota, hd, hc, ha, hr, hburst⟩ }
  · exact aside_accessError s

theorem aside_writeAlertEnable (v : Word) (s : State) : Aside s (s.writeAlertEnable v) :=
  aside_settled (f := { s.flt with alertEnable := v.setWidth 23 }) le_rfl

theorem writeRegister_moves {s : State} (hon : s.powerOn = false) (a : BitVec 16) (v : Word) :
    Moves s (s.writeRegister a v) := by
  unfold State.writeRegister
  split
  · exact commandWrite_moves hon _ _
  · refine (Move.aside (aside_writeSetting fun hrange h => ?_)).moves
    obtain ⟨hquota, -, hrest⟩ := h
    exact ⟨hquota, bne_iff_ne.1 hrange, hrest⟩
  · refine (Move.aside (aside_writeSetting fun hrange h => ?_)).moves
    obtain ⟨hquota, hd, -, hrest⟩ := h
    exact ⟨hquota, hd, bne_iff_ne.1 hrange, hrest⟩
  · refine (Move.aside (aside_writeSetting fun hrange h => ?_)).moves
    obtain ⟨hquota, hd, hc, -, hrest⟩ := h
    exact ⟨hquota, hd, hc, bne_iff_ne.1 hrange, hrest⟩
  · refine (Move.aside (aside_writeSetting fun hrange h => ?_)).moves
    obtain ⟨hquota, hd, hc, ha, -, hrest⟩ := h
    exact ⟨hquota, hd, hc, ha, bne_iff_ne.1 hrange, hrest⟩
  · exact (Move.aside (aside_writePathCtrl v s)).moves
  · exact (Move.aside (aside_writeAlertEnable v s)).moves
  all_goals exact Move.moves (.aside { Aside.refl s with })

/-! ## Resets and the load -/

theorem busReset_moves (s : State) : Moves s s.busReset := by
  refine .head (.withdraw everyEntry) (.head (.dismissAll fun i => ?_) (Move.settleQuiesce).moves)
  rw [State.withdraw_get, if_pos (by rfl), Entry.withdrawn_not_live]

theorem endLoad_moves {s : State} (hon : s.powerOn = false) (eeprom : Eeprom) :
    Moves s (s.endLoad (loadOutcome eeprom)) := by
  have haside : Aside s (loaded (loadOutcome eeprom) s) := aside_loaded (fun rs h => loadOutcome_legal h) s
  rw [endLoad_eq]
  exact (Move.aside haside).moves.tail
    (.enter .active (.inl rfl) (Bool.eq_false_iff.2 fun h => Bool.eq_false_iff.1 hon (haside.powerOn h)))

/-! ## The link -/

/-- R140–R144: entering DOWN is the loss, the offer of the freed entries and the change to QUIESCED. -/
theorem enterDown_eq_lost (s : State) :
    s.enterDown = ((lost s).offer (freedByLoss s)).settleQuiesce := by
  simp only [State.enterDown, lost, freedByLoss, loseFlights_eq]
  rfl

theorem enterDown_moves (s : State) : Moves s s.enterDown := by
  rw [enterDown_eq_lost]
  refine .head .lose (offered_moves fun i hi => ?_)
  exact eq_of_beq (List.mem_filter.1 hi).2

theorem freed_link_moves {i : EntryNo} {m : MemoryLink} {rs : List FaultRecord} {s u : State}
    (h : Moves s { u with rqt := u.rqt.lowerHeld u.dt.entries [i], dt := u.dt.clear [i], mli := m }) :
    Moves s (State.freeEntry i { u with mli := m, flt := u.flt.appendAll rs }) := by
  refine freed_moves ?_
  rw [release_link]
  exact h.tail (.aside (aside_log rs _))

/-- An answer to a read is at most one change of a tag and its entry, and moves. -/
theorem completion_cases (checkOk : Bool) (c : ReadCompletion) (s : State) :
    ∃ u, Completed s u ∧ Moves u (s.completion checkOk c) := by
  unfold State.completion
  split
  · exact ⟨s, .none, (Move.aside (aside_log _ s)).moves⟩
  · next r a i htag =>
    exact ⟨s, .none, (Move.freeTag c.tag ⟨r, a, i, htag⟩).moves.tail (.aside (aside_log _ _))⟩
  · next i htag =>
    split
    · next hissued => exact ⟨_, .issued c.tag i checkOk _ c.data htag hissued, (Move.aside (aside_log _ _)).moves⟩
    · next horphan =>
      exact ⟨_, .orphan c.tag i htag horphan, freed_link_moves (u := s) .refl⟩
    all_goals exact ⟨s, .none, .refl⟩

theorem depart_link (r : RequesterNo) (failed : Bool) (m : MemoryLink) (rs : List FaultRecord) (s : State) :
    State.depart r failed { s with mli := m, flt := s.flt.appendAll rs } =
      State.log rs { s with pwq := s.pwq.tail, dt := (s.depart r failed).dt, mli := m } := by
  simp only [State.depart, State.log]

/-- The record of an acknowledgement that fails (R94). -/
def failRecords (st : Status) (w : PostedWrite) (s : State) : List FaultRecord :=
  if st = .ok then []
  else [{ s.record .writeFailed with
          requester := some w.requester, down := some w.address, status := some st }]

/-- R93, R94, R97: the record acknowledged leaves the queue, and its departure is accounted for. -/
theorem ackPosted_eq {s : State} {w : PostedWrite} {ws : List PostedWrite} (st : Status) (hqueue : s.pwq = w :: ws) :
    s.ackPosted st = ((s.log (failRecords st w s)).depart w.requester (st != .ok)).settleQuiesce := by
  simp only [State.ackPosted, hqueue, failRecords]

theorem ackPosted_moves {s : State} {w : PostedWrite} {ws : List PostedWrite} (st : Status) (m : MemoryLink)
    (hqueue : s.pwq = w :: ws) :
    Moves { s with pwq := s.pwq.tail, dt := (s.depart w.requester (st != .ok)).dt, mli := m }
      (State.ackPosted st { s with mli := m }) := by
  rw [ackPosted_eq (s := { s with mli := m }) st hqueue, State.log, depart_link]
  exact (Move.aside (aside_log _ _)).moves.tail .settleQuiesce

/-- An acknowledgement is one change of the list with the queue or an entry, and moves. -/
theorem ack_cases (status : LinkStatus) (s : State) : ∃ u, Acked s u ∧ Moves u (s.ack status) := by
  unfold State.ack
  split
  · next hempty => exact ⟨s, .none hempty, (Move.aside (aside_log _ s)).moves⟩
  next f fs hflights =>
  dsimp only
  split
  · next href =>
    by_cases hqueue : s.pwq = []
    · refine ⟨_, .stray f fs hflights (by rw [href]; exact hqueue), ?_⟩
      simp only [State.ackPosted, hqueue]
      exact .refl
    · obtain ⟨w, ws, hhead⟩ := List.exists_cons_of_ne_nil hqueue
      exact ⟨_, .posted f fs w.requester (ackStatus status != .ok) hflights href hqueue,
        ackPosted_moves _ _ hhead⟩
  · next i href =>
    have hstray : s.dt.entries[i].state ≠ .issued → s.dt.entries[i].state ≠ .orphaned → Stray s f.ref := by
      rw [href]
      exact And.intro
    unfold State.ackNpWrite
    dsimp only
    split
    · next hissued => exact ⟨_, .issued f fs i _ hflights href hissued, .refl⟩
    · next horphan =>
      exact ⟨_, .orphan f fs i hflights href horphan, freed_link_moves (u := s) .refl⟩
    all_goals
      next hstate =>
      exact ⟨_, .stray f fs hflights (hstray (Eq.trans_ne hstate (by decide)) (Eq.trans_ne hstate (by decide))), .refl⟩

/-! ## Every command -/

theorem exec_writeAck {s : State} {status : LinkStatus} (hon : s.powerOn = false) :
    exec (.writeAck status) s = .next (s.ack status).ackTimeout :=
  congrArg Host.Outcome.next (if_neg (Bool.eq_false_iff.1 hon))

theorem guarded_moves {c : Prop} [Decidable c] {s t : State} (h : c → Moves s t) :
    Moves s (if c then t else s) := by
  split
  · next hc => exact h hc
  · exact .refl

theorem barred_moves {c : Prop} [Decidable c] {s t : State} (h : ¬ c → Moves s t) :
    Moves s (if c then s else t) := by
  split
  · exact .refl
  · next hc => exact h hc

theorem port_moves {d : DeviceAddr} {s t : State} (h : s.powerOn = false → Moves s t) :
    Moves s (if s.portTakes d then t else s) :=
  guarded_moves fun htakes => h (State.portTakes_iff.1 htakes).1

theorem portCommand_moves {d : DeviceAddr} {s : State} (code : Byte) {act : State → CmdOutcome × State}
    (h : s.powerOn = false → Moves s (act s).2) :
    Moves s (if s.portTakes d then s.takeCommand code act else s) :=
  port_moves fun hon => takeCommand_moves code (h hon)

theorem takeCredit_moves (n : Nat) (s : State) : Moves s (s.takeCredit n) :=
  guarded_moves fun hup => (Move.credit n hup).moves

theorem comeUp_moves {s : State} (hon : s.powerOn = false) : Moves s s.comeUp :=
  guarded_moves fun hdown => (Move.comeUp hon hdown).moves

theorem writeTransaction_moves {s : State} (hon : s.powerOn = false) (w : PortWrite) :
    Moves s (s.writeTransaction w) := by
  unfold State.writeTransaction
  split
  · exact (Move.aside (aside_accessError s)).moves
  · exact writeRegister_moves hon _ _

/-- Every command but the two answers of the Memory Link is moves alone. -/
theorem exec_moves {c : Instr} {s t : State} (hread : ∀ x, c ≠ .readCpl x) (hack : ∀ x, c ≠ .writeAck x)
    (h : exec c s = .next t) : Moves s t := by
  cases c with
  | upstreamRequest q => exact upstreamRequest_moves h
  | arbiterGrant => cases h; exact grant_moves s
  | readCpl x => exact absurd rfl (hread x)
  | writeAck x => exact absurd rfl (hack x)
  | credit n => cases h; exact barred_moves fun _ => takeCredit_moves n.val s
  | linkUp => cases h; exact barred_moves fun hon => comeUp_moves (Bool.eq_false_iff.2 hon)
  | linkDown => cases h; exact barred_moves fun _ => enterDown_moves s
  | completionTimerExpiry i => cases h; exact expire_moves (.completion i) s
  | ackTimerExpiry => cases h; exact expire_moves .acknowledgement s
  | discardTimerExpiry i => cases h; exact expire_moves (.discard i) s
  | reservationTimerExpiry i => cases h; exact expire_moves (.reservation i) s
  | windowCommit d a => cases h; exact portCommand_moves _ fun _ => windowCommitAct_moves a s
  | requesterCommit d a => cases h; exact portCommand_moves _ fun _ => requesterCommitAct_moves a s
  | logPop d a => cases h; exact portCommand_moves _ fun _ => logPopAct_moves s
  | logClear d a => cases h; exact portCommand_moves _ fun _ => logClearAct_moves s
  | counterClear d a => cases h; exact portCommand_moves _ fun _ => counterClearAct_moves a s
  | entryView d a => cases h; exact portCommand_moves _ fun _ => entryViewAct_moves a s
  | quiesce d a => cases h; exact portCommand_moves _ quiesceAct_moves
  | resume d a => cases h; exact portCommand_moves _ resumeAct_moves
  | pathReset d a => cases h; exact portCommand_moves _ fun _ => pathResetAct_moves s
  | linkReset d a => cases h; exact portCommand_moves _ fun _ => linkResetAct_moves s
  | unnamedCommandCode d code a => cases h; exact port_moves fun hon => commandWrite_moves hon code a
  | alertEnableWrite d v => cases h; exact port_moves fun _ => (Move.aside (aside_writeAlertEnable v s)).moves
  | mntStatusRead d n => cases h; exact guarded_moves fun _ => Move.moves (.aside { Aside.refl s with })
  | registerWrite w => cases h; exact port_moves fun hon => writeTransaction_moves hon w
  | powerOnReset => cases h; exact Move.reset.moves
  | powerOnResetDeassertion p =>
    cases h
    exact guarded_moves fun hon => Move.moves (.aside { Aside.refl s with powerOn := fun _ => hon })
  | endOfLoad eeprom =>
    cases h
    exact barred_moves fun hload => endLoad_moves (Bool.eq_false_iff.2 fun hon => hload (.inl hon)) eeprom
  | busReset => cases h; exact busReset_moves s
  | timebaseTick => cases h; exact barred_moves fun _ => tick_moves s

/-- A command is at most one answer to a read and then moves; or an acknowledgement, then moves, and then the expiry of
R131. -/
theorem exec_cases {c : Instr} {s t : State} (h : exec c s = .next t) :
    (∃ u, Completed s u ∧ Moves u t) ∨ ∃ u v, Acked s u ∧ Moves u v ∧ t = v.ackTimeout := by
  by_cases hread : ∃ x, c = .readCpl x
  · obtain ⟨x, rfl⟩ := hread
    left
    cases hon : s.powerOn with
    | true =>
      cases h
      exact ⟨s, .none, by rw [hon]; exact .refl⟩
    | false =>
      rw [exec_readCpl hon] at h
      cases h
      exact completion_cases _ x s
  by_cases hack : ∃ x, c = .writeAck x
  · obtain ⟨x, rfl⟩ := hack
    cases hon : s.powerOn with
    | true =>
      cases h
      exact .inl ⟨s, .none, by rw [hon]; exact .refl⟩
    | false =>
      obtain ⟨u, hacked, hu⟩ := ack_cases x s
      rw [exec_writeAck hon] at h
      cases h
      exact .inr ⟨u, _, hacked, hu, rfl⟩
  exact .inl ⟨s, .none, exec_moves (fun x hx => hread ⟨x, hx⟩) (fun x hx => hack ⟨x, hx⟩) h⟩

/-- What holds of a state and is kept by every move, holds behind them. -/
theorem moves_keep {P : State → Prop} (hmove : ∀ s t, Move s t → P s → P t) {s t : State} (h : Moves s t)
    (hs : P s) : P t := by
  induction h with
  | refl => exact hs
  | tail _ hlast ih => exact hmove _ _ hlast ih

/-- A step is an idle one, or the command at the front of the queue run on the state without it. -/
theorem step_cases {s t : State} (h : step s = .next t) :
    t = s ∨ ∃ c rest, exec c { s with pending := rest } = .next t := by
  unfold step at h
  split at h
  · cases h; exact .inl rfl
  · next c rest _ => exact .inr ⟨c, rest, h⟩

/-- The induction over a step: what the state before a step gives (`Q`) gives `P` behind the answer that the command
may begin with, and every move keeps `P`. -/
theorem step_gives {P Q : State → Prop} (hQP : ∀ s, Q s → P s)
    (hpending : ∀ s rest, Q s → Q { s with pending := rest })
    (hcompleted : ∀ s t, Completed s t → Q s → P t) (hacked : ∀ s t, Acked s t → Q s → P t)
    (hmove : ∀ s t, Move s t → P s → P t) {s t : State} (hs : Q s) (h : step s = .next t) : P t := by
  obtain rfl | ⟨c, rest, h⟩ := step_cases h
  · exact hQP _ hs
  · have hs := hpending s rest hs
    obtain ⟨u, hu, hmoves⟩ | ⟨u, v, hu, hmoves, rfl⟩ := exec_cases h
    · exact moves_keep hmove hmoves (hcompleted _ u hu hs)
    · exact moves_keep hmove (hmoves.trans (ackTimeout_moves v)) (hacked _ u hu hs)

/-- What every move and every answer keeps, a step keeps. -/
theorem step_keeps {P : State → Prop} (hpending : ∀ s rest, P s → P { s with pending := rest })
    (hcompleted : ∀ s t, Completed s t → P s → P t) (hacked : ∀ s t, Acked s t → P s → P t)
    (hmove : ∀ s t, Move s t → P s → P t) {s t : State} (hs : P s) (h : step s = .next t) : P t :=
  step_gives (fun _ => id) hpending hcompleted hacked hmove hs h

end Sys2Proof.MoveProofs

/-! # Proofs: the invariants of capacities, lines, configuration and queue -/

namespace Sys2Proof.CapacityProofs

open Sys2Proof Sys2Proof.Machine Sys2Proof.Claims Sys2Proof.MoveProofs Sys2Proof.CommandProofs Sys2Proof.LinkDownProofs
  Sys2Proof.FreshnessProofs

/-! ## The parts of a move -/

theorem appendAll_length_le {f : FaultUnit} (rs : List FaultRecord) (h : f.log.length ≤ 16) :
    (f.appendAll rs).log.length ≤ 16 :=
  FaultUnit.appendAll_induct (P := fun f => f.log.length ≤ 16) (fun f r => f.append_length_le r) rs f h

theorem appendAll_level {f : FaultUnit} (rs : List FaultRecord) (h : f.alert = f.level) :
    (f.appendAll rs).alert = (f.appendAll rs).level :=
  FaultUnit.appendAll_induct (P := fun f => f.alert = f.level) (fun f r _ => f.append_level r) rs f h

/-- R125: the link is as it was, or has left UP. -/
theorem limited_cases (m : MemoryLink) :
    (limited m = m ∧ (m.state = .up → m.countTags 2 < 8)) ∨ (m.state = .up ∧ limited m = m.leaveUp) := by
  unfold limited
  split
  · next h => exact .inr ⟨h.2, rfl⟩
  · next h => exact .inl ⟨rfl, fun hup => Nat.lt_of_not_le fun hcount => h ⟨hcount, hup⟩⟩

theorem limited_flights (m : MemoryLink) : (limited m).flights = m.flights := by
  obtain ⟨h, -⟩ | ⟨-, h⟩ := limited_cases m <;> rw [h]
  rfl

theorem limited_tags (m : MemoryLink) : (limited m).tags = m.tags := by
  obtain ⟨h, -⟩ | ⟨-, h⟩ := limited_cases m <;> rw [h]
  rfl

theorem membersSettled_pwq_eq_drop (s : State) :
    (membersSettled s).pwq = s.pwq.drop (postedFlights s.mli.flights) := by
  rw [membersSettled, settleFlights_pwq, ← postedFlights_eq_count, loseLink_frame]

/-- A property of the Fault Unit that one append keeps, the loss of the link keeps. -/
theorem membersSettled_flt_induct {P : FaultUnit → Prop} (h : ∀ f r, P f → P (f.append r)) (s : State)
    (hs : P s.flt) : P (membersSettled s).flt := by
  have hloss : P s.loseLink.flt := by
    rw [loseLink_frame]
    exact h _ _ hs
  unfold membersSettled
  generalize s.loseLink = u at hloss
  generalize s.mli.flights.map FlightMember.ref = refs
  induction refs generalizing u with
  | nil => exact hloss
  | cons ref refs ih =>
    refine ih _ ?_
    rw [settleFlight_flt]
    exact FaultUnit.appendAll_induct h _ _ hloss

/-! ## Capacities -/

theorem issueOldest_length (q : List PostedWrite) : (issueOldest q).length = q.length := by
  induction q with
  | nil => rfl
  | cons w q ih =>
    unfold issueOldest
    split
    · rfl
    · rw [List.length_cons, List.length_cons, ih]

/-- R110: no link but an UP one holds credits, so that a link that keeps its state or leaves UP with none may take any
number while UP. -/
theorem move_capacity {s t : State} (h : Move s t) (hs : s.WithinCapacity) : t.WithinCapacity := by
  obtain ⟨hqueue, hflights, hlog, hcredits, hnone, hstreak⟩ := hs
  have hlimited : ∀ m : MemoryLink, m.state = s.mli.state → m.credits = s.mli.credits →
      (limited m).credits ≤ 16 ∧ ((limited m).state ≠ .up → (limited m).credits = 0) := fun m hstate hc => by
    obtain ⟨h, -⟩ | ⟨-, h⟩ := limited_cases m <;> rw [h]
    · rw [hstate, hc]
      exact ⟨hcredits, hnone⟩
    · exact ⟨Nat.zero_le _, fun _ => rfl⟩
  cases h with
  | aside h =>
    rw [State.WithinCapacity, h.pwq, h.mli, h.streak]
    exact ⟨hqueue, hflights, h.log hlog, hcredits, hnone, hstreak⟩
  | settleQuiesce =>
    rw [State.settleQuiesce_eq]
    exact ⟨hqueue, hflights, hlog, hcredits, hnone, hstreak⟩
  | freshen l =>
    exact ⟨hqueue, hflights, freshen_flt l s ▸ appendAll_length_le _ hlog, hcredits, hnone, hstreak⟩
  | withdraw p =>
    exact ⟨hqueue, hflights, s.withdraw_flt p ▸ appendAll_length_le _ hlog, hcredits, hnone, hstreak⟩
  | enqueue w _ hroom _ =>
    refine ⟨?_, hflights, hlog, hcredits, hnone, hstreak⟩
    rw [List.length_append, List.length_singleton]
    omega
  | grantWrite out h =>
    simp only [State.writeEligible, Bool.and_eq_true, MemoryLink.hasRoom, decide_eq_true_eq, beq_iff_eq] at h
    obtain ⟨⟨⟨-, hup⟩, -⟩, hroom⟩ := h
    refine ⟨?_, ?_, hlog, ?_, fun hdown => absurd hup hdown, ?_⟩
    · exact le_of_eq_of_le (issueOldest_length s.pwq) hqueue
    · simp only [State.joinFlights, List.length_append, List.length_singleton]
      omega
    · simp only [State.joinFlights]
      omega
    · simp only [streakUp]
      omega
  | grantRead i t hup _ _ _ =>
    exact ⟨hqueue, hflights, hlog, (Nat.sub_le _ _).trans hcredits, fun hdown => absurd hup hdown, Nat.zero_le _⟩
  | launch i out hup hroom _ _ =>
    refine ⟨hqueue, ?_, hlog, (Nat.sub_le _ _).trans hcredits, fun hdown => absurd hup hdown, Nat.zero_le _⟩
    simp only [State.joinFlights, List.length_append, List.length_singleton]
    omega
  | timeoutIssued i t r a | timeoutOrphan i t r a =>
    obtain ⟨hle, hzero⟩ := hlimited (s.mli.setTag t (.quarantined r a i)) rfl rfl
    exact ⟨hqueue, le_of_eq_of_le (congrArg List.length (limited_flights _)) hflights, hlog, hle, hzero, hstreak⟩
  | leaveUp _ => exact ⟨hqueue, hflights, hlog, Nat.zero_le _, fun _ => rfl, hstreak⟩
  | credit n hup => exact ⟨hqueue, hflights, hlog, Nat.min_le_right _ _, fun hdown => absurd hup hdown, hstreak⟩
  | comeUp _ _ => exact ⟨hqueue, hflights, hlog, hcredits, fun hdown => absurd rfl hdown, hstreak⟩
  | lose =>
    refine ⟨?_, Nat.zero_le _, ?_, Nat.zero_le _, fun _ => rfl, hstreak⟩
    · exact (congrArg List.length (membersSettled_pwq_eq_drop s)).trans_le ((List.drop_sublist _ _).length_le.trans hqueue)
    · exact membersSettled_flt_induct (P := fun f => f.log.length ≤ 16) (fun f r => f.append_length_le r) s hlog
  | clearPath => exact ⟨Nat.zero_le _, Nat.zero_le _, appendAll_length_le _ hlog, Nat.zero_le _, fun _ => rfl, Nat.zero_le _⟩
  | reset =>
    exact ⟨Nat.zero_le _, Nat.zero_le _, Nat.zero_le _, Nat.zero_le _, fun _ => rfl, Nat.zero_le _⟩
  | tick _ =>
    refine ⟨hqueue, ?_, hlog, hcredits, hnone, hstreak⟩
    rwa [List.length_map]
  | _ => exact ⟨hqueue, hflights, hlog, hcredits, hnone, hstreak⟩

theorem completed_capacity {s t : State} (h : Completed s t) (hs : s.WithinCapacity) : t.WithinCapacity := by
  cases h with
  | none => exact hs
  | issued t i checkOk st data _ _ => exact hs
  | orphan t i _ _ => exact hs

theorem acked_capacity {s t : State} (h : Acked s t) (hs : s.WithinCapacity) : t.WithinCapacity := by
  obtain ⟨hqueue, hflights, hlog, hcredits, hnone, hstreak⟩ := hs
  have htail : ∀ {f fs}, s.mli.flights = f :: fs → fs.length ≤ 16 := fun {f fs} h => by
    rw [h, List.length_cons] at hflights
    omega
  cases h with
  | none _ => exact ⟨hqueue, hflights, hlog, hcredits, hnone, hstreak⟩
  | posted f fs r failed h _ _ =>
    exact ⟨(List.length_tail.trans_le (Nat.sub_le _ _)).trans hqueue, htail h, hlog, hcredits, hnone, hstreak⟩
  | stray f fs h _ | issued f fs i st h _ _ | orphan f fs i h _ _ =>
    exact ⟨hqueue, htail h, hlog, hcredits, hnone, hstreak⟩

/-- Settles O50: each move and each answer keeps the bounds. -/
theorem stepKeepsCapacities : Obligations.StepKeepsCapacities :=
  fun _ _ => step_keeps (fun _ _ => id) (fun _ _ => completed_capacity) (fun _ _ => acked_capacity)
    fun _ _ => move_capacity

/-! ## Lines -/

/-- R134: LINK_RESET stands as before with the link, or the link has left UP with it asserted. -/
theorem limited_line {m : MemoryLink} (h : m.linkReset = (m.state == .resetting)) :
    (limited m).linkReset = ((limited m).state == .resetting) := by
  obtain ⟨hm, -⟩ | ⟨-, hm⟩ := limited_cases m <;> rw [hm]
  · exact h
  · rfl

theorem move_lines {s t : State} (h : Move s t) (hs : s.LinesExact) : t.LinesExact := by
  obtain ⟨halert, hline⟩ := hs
  cases h with
  | aside h => exact ⟨h.alert halert, h.mli ▸ hline⟩
  | settleQuiesce =>
    rw [State.settleQuiesce_eq]
    exact ⟨halert, hline⟩
  | freshen l => exact ⟨freshen_flt l s ▸ appendAll_level _ halert, hline⟩
  | withdraw p => exact ⟨s.withdraw_flt p ▸ appendAll_level _ halert, hline⟩
  | timeoutIssued i t r a | timeoutOrphan i t r a => exact ⟨halert, limited_line hline⟩
  | leaveUp _ => exact ⟨halert, rfl⟩
  | comeUp _ hdown =>
    refine ⟨halert, hline.trans ?_⟩
    rw [hdown]
    rfl
  | lose => exact ⟨membersSettled_flt_induct (P := fun f => f.alert = f.level) (fun f r _ => f.append_level r) s halert, rfl⟩
  | clearPath =>
    refine ⟨appendAll_level _ halert, ?_⟩
    simp only [pathCleared, hline]
    cases s.mli.state <;> rfl
  | reset => exact ⟨rfl, rfl⟩
  | _ => exact ⟨halert, hline⟩

theorem completed_lines {s t : State} (h : Completed s t) (hs : s.LinesExact) : t.LinesExact := by
  cases h with
  | none | issued | orphan => exact hs

theorem acked_lines {s t : State} (h : Acked s t) (hs : s.LinesExact) : t.LinesExact := by
  cases h with
  | none | stray | posted | issued | orphan => exact hs

/-- Settles O51: the log and the flag change by appends and settled commands alone, and the line moves with the link
state. -/
theorem stepKeepsLinesExact : Obligations.StepKeepsLinesExact :=
  fun _ _ => step_keeps (fun _ _ => id) (fun _ _ => completed_lines) (fun _ _ => acked_lines) fun _ _ => move_lines

/-! ## Configuration -/

theorem settingsLegal_of_same {s t : State}
    (hquota : ∀ r : RequesterNo, t.rqt.requesters[r].quota = s.rqt.requesters[r].quota)
    (hsettings : t.mnt.settings = s.mnt.settings) (h : s.SettingsLegal) : t.SettingsLegal := by
  rw [State.SettingsLegal, hsettings]
  exact ⟨fun r => by rw [hquota]; exact h.1 r, h.2⟩

theorem update_quota {r : RequesterNo} {f : Requester → Requester} (h : ∀ x, (f x).quota = x.quota)
    (t : RequesterTable) (q : RequesterNo) : (t.update r f).requesters[q].quota = t.requesters[q].quota := by
  rw [RequesterTable.update_get]
  split
  · exact h _
  · rfl

theorem lowerHeld_quota (es : Vector Entry 24) (is : List EntryNo) (t : RequesterTable) (q : RequesterNo) :
    (t.lowerHeld es is).requesters[q].quota = t.requesters[q].quota := by
  rw [RequesterTable.lowerHeld_get]

theorem allDismissed_quota (s : State) (q : RequesterNo) :
    (allDismissed s).rqt.requesters[q].quota = s.rqt.requesters[q].quota := by
  simp only [allDismissed, mapTable_get]

theorem pathCleared_quota (s : State) (q : RequesterNo) :
    (pathCleared s).rqt.requesters[q].quota = s.rqt.requesters[q].quota :=
  allDismissed_quota s q

theorem reset_settingsLegal : State.reset.SettingsLegal := by
  refine ⟨fun r => ?_, by decide⟩
  rw [ResetProofs.reset_requester]
  decide

theorem reset_windowsLegal : State.reset.WindowsLegal := fun n hon => by
  rw [ResetProofs.reset_window] at hon
  cases hon

/-- The configuration changes beside the work alone. -/
theorem move_configuration {s t : State} (h : Move s t) :
    (s.WindowsLegal → t.WindowsLegal) ∧ (s.SettingsLegal → t.SettingsLegal) := by
  cases h with
  | aside h => exact ⟨h.windows, h.settings⟩
  | settleQuiesce =>
    rw [State.settleQuiesce_eq]
    exact ⟨id, id⟩
  | create i e r _ _ _ _ =>
    exact ⟨id, settingsLegal_of_same
      (update_quota (f := fun q => { q with held := q.held + 1 }) (fun _ => rfl) s.rqt) rfl⟩
  | releaseHeld i _ | timeoutOrphan i _ _ _ _ _ =>
    exact ⟨id, settingsLegal_of_same (lowerHeld_quota s.dt.entries [i] s.rqt) rfl⟩
  | withdraw p => exact ⟨id, settingsLegal_of_same (lowerHeld_quota s.dt.entries _ s.rqt) rfl⟩
  | dismiss r is _ _ =>
    exact ⟨id, settingsLegal_of_same (update_quota (f := fun q => { q with held := 0 }) (fun _ => rfl) s.rqt) rfl⟩
  | dismissAll _ => exact ⟨id, settingsLegal_of_same (allDismissed_quota s) rfl⟩
  | clearPath => exact ⟨id, settingsLegal_of_same (pathCleared_quota s) rfl⟩
  | reset => exact ⟨fun _ => reset_windowsLegal, fun _ => reset_settingsLegal⟩
  | _ => exact ⟨id, id⟩

theorem completed_configuration {s t : State} (h : Completed s t) :
    (s.WindowsLegal → t.WindowsLegal) ∧ (s.SettingsLegal → t.SettingsLegal) := by
  cases h with
  | none | issued => exact ⟨id, id⟩
  | orphan t i _ _ => exact ⟨id, settingsLegal_of_same (lowerHeld_quota s.dt.entries [i] s.rqt) rfl⟩

theorem acked_configuration {s t : State} (h : Acked s t) :
    (s.WindowsLegal → t.WindowsLegal) ∧ (s.SettingsLegal → t.SettingsLegal) := by
  cases h with
  | none | stray | posted | issued => exact ⟨id, id⟩
  | orphan f fs i _ _ _ => exact ⟨id, settingsLegal_of_same (lowerHeld_quota s.dt.entries [i] s.rqt) rfl⟩

/-- Settles O52: what a commit, an image or a write sets is tested first, and nothing else sets a window, a quota or a
setting. -/
theorem stepKeepsConfigurationLegal : Obligations.StepKeepsConfigurationLegal := fun _ _ h =>
  ⟨fun hs => step_keeps (fun _ _ => id) (fun _ _ h => (completed_configuration h).1)
      (fun _ _ h => (acked_configuration h).1) (fun _ _ h => (move_configuration h).1) hs h,
    fun hs => step_keeps (fun _ _ => id) (fun _ _ h => (completed_configuration h).2)
      (fun _ _ h => (acked_configuration h).2) (fun _ _ h => (move_configuration h).2) hs h⟩

/-! ## The queue -/

theorem issueOldest_ordered {q : List PostedWrite}
    (h : q.Pairwise fun a b => b.state = .issued → a.state = .issued) :
    (issueOldest q).Pairwise fun a b => b.state = .issued → a.state = .issued := by
  induction h with
  | nil => exact .nil
  | @cons w q hw hq ih =>
    unfold issueOldest
    split
    · exact .cons (fun _ _ _ => rfl) hq
    · next hstate =>
      have hissued : w.state = .issued := by
        cases hw' : w.state with
        | queued => exact absurd hw' hstate
        | issued => rfl
      exact .cons (fun _ _ _ => hissued) ih

theorem issueOldest_issuedCount {q : List PostedWrite} (h : (oldestQueued q).isSome = true) :
    issuedCount (issueOldest q) = issuedCount q + 1 := by
  induction q with
  | nil => cases h
  | cons w q ih =>
    unfold issueOldest
    cases hw : w.state with
    | queued => simp [issuedCount, hw]
    | issued =>
      have hrest : (oldestQueued q).isSome = true := by simpa [oldestQueued, hw] using h
      have ih := ih hrest
      simp only [issuedCount] at ih ⊢
      simp [hw, ih]

theorem postedFlights_append (fs : List FlightMember) (f : FlightMember) :
    postedFlights (fs ++ [f]) = postedFlights fs + if f.ref = .posted then 1 else 0 := by
  simp [postedFlights, List.countP_append, List.countP_singleton]

theorem issuedCount_append_queued {q : List PostedWrite} {w : PostedWrite} (h : w.state = .queued) :
    issuedCount (q ++ [w]) = issuedCount q := by
  simp [issuedCount, h]

/-- R88: no posted member stands for no record. -/
theorem not_stray_posted {s : State} {f : FlightMember} {fs : List FlightMember} (hs : s.QueueOrdered)
    (hflights : s.mli.flights = f :: fs) (href : f.ref = .posted) : s.pwq ≠ [] := by
  intro hempty
  have hcount := hs.2
  simp [hempty, hflights, issuedCount, postedFlights, href] at hcount

theorem postedFlights_tail {f : FlightMember} {fs : List FlightMember} (href : f.ref ≠ .posted) :
    postedFlights (f :: fs) = postedFlights fs := by
  simp [postedFlights, href]

theorem move_queue {s t : State} (h : Move s t) (hs : s.QueueOrdered) : t.QueueOrdered := by
  obtain ⟨hordered, hcount⟩ := hs
  cases h with
  | aside h =>
    rw [State.QueueOrdered, h.pwq, h.mli]
    exact ⟨hordered, hcount⟩
  | settleQuiesce =>
    rw [State.settleQuiesce_eq]
    exact ⟨hordered, hcount⟩
  | enqueue w _ _ hqueued =>
    refine ⟨List.pairwise_append.2 ⟨hordered, List.pairwise_singleton _ _, fun a _ b hb hissued => ?_⟩,
      (issuedCount_append_queued hqueued).trans hcount⟩
    rw [List.mem_singleton.1 hb, hqueued] at hissued
    cases hissued
  | grantWrite out h =>
    simp only [State.writeEligible, Bool.and_eq_true] at h
    refine ⟨issueOldest_ordered hordered, ?_⟩
    simp only [State.joinFlights, postedFlights_append, issueOldest_issuedCount h.1.1.1, hcount,
      if_true]
  | launch i out _ _ _ _ =>
    refine ⟨hordered, hcount.trans ?_⟩
    simp [State.joinFlights, postedFlights_append]
  | timeoutIssued i t r a | timeoutOrphan i t r a =>
    refine ⟨hordered, hcount.trans (congrArg postedFlights ?_)⟩
    rw [limited_flights]
    rfl
  | lose =>
    have hqueue : (lost s).pwq = s.pwq.filter (fun w => w.state = .queued) := membersSettled_pwq s ⟨hordered, hcount⟩
    refine ⟨?_, ?_⟩
    · rw [hqueue]
      exact hordered.sublist List.filter_sublist
    · rw [hqueue]
      exact List.countP_eq_zero.2 fun w hw => by simp [of_decide_eq_true (List.mem_filter.1 hw).2]
  | clearPath | reset => exact ⟨.nil, rfl⟩
  | tick _ =>
    refine ⟨hordered, hcount.trans ?_⟩
    simp only [postedFlights, List.countP_map]
    rfl
  | _ => exact ⟨hordered, hcount⟩

theorem completed_queue {s t : State} (h : Completed s t) (hs : s.QueueOrdered) : t.QueueOrdered := by
  cases h with
  | none | issued | orphan => exact hs

/-- R88, R93: the record acknowledged is the oldest ISSUED one, the head of the queue. -/
theorem acked_queue {s t : State} (h : Acked s t) (hs : s.QueueOrdered) : t.QueueOrdered := by
  have hordered := hs.1
  have hcount := hs.2
  have hnpWrite : ∀ {f fs}, s.mli.flights = f :: fs → f.ref ≠ .posted → issuedCount s.pwq = postedFlights fs :=
    fun hflights href => by rw [hcount, hflights, postedFlights_tail href]
  cases h with
  | none _ => exact hs
  | stray f fs hflights hstray =>
    refine ⟨hordered, hnpWrite hflights fun href => ?_⟩
    rw [href] at hstray
    exact not_stray_posted hs hflights href hstray
  | posted f fs r failed hflights href hqueue =>
    obtain ⟨w, ws, hhead⟩ := List.exists_cons_of_ne_nil hqueue
    simp only [hhead, List.tail_cons] at hordered hcount ⊢
    refine ⟨hordered.tail, ?_⟩
    have hissued : w.state = .issued := by
      cases hw : w.state with
      | issued => rfl
      | queued =>
        have hnone : issuedCount (w :: ws) = 0 := List.countP_eq_zero.2 fun x hx => by
          rcases List.mem_cons.1 hx with rfl | hx
          · simp [hw]
          · simpa [hw] using (List.pairwise_cons.1 hordered).1 x hx
        simp [hnone, hflights, postedFlights, href] at hcount
    simpa [hflights, issuedCount, postedFlights, hissued, href] using hcount
  | issued f fs i st hflights href _ | orphan f fs i hflights href _ =>
    exact ⟨hordered, hnpWrite hflights (by simp [href])⟩

/-- Settles O57: records join behind the QUEUED ones, the oldest of them is issued, and the oldest ISSUED one
departs. -/
theorem stepKeepsQueueOrdered : Obligations.StepKeepsQueueOrdered :=
  fun _ _ => step_keeps (fun _ _ => id) (fun _ _ => completed_queue) (fun _ _ => acked_queue) fun _ _ => move_queue

end Sys2Proof.CapacityProofs

/-! # Proofs: the invariants of held counts, age order and keys

An entry enters the table by a creation alone.  Every other change is `Thinned`: entries may leave it, with their place
in the age order and their part of the held count, and those that stay keep their requester and their key. -/

namespace Sys2Proof.HolderProofs

open Sys2Proof Sys2Proof.Machine Sys2Proof.Claims Sys2Proof.MoveProofs Sys2Proof.CommandProofs Sys2Proof.LinkDownProofs
  Sys2Proof.WindowCommitProofs Sys2Proof.FreshnessProofs

/-! ## One entry -/

theorem put_get (i j : EntryNo) (e : Entry) (d : DeferralTable) :
    (d.put i e).entries[j] = if j = i then e else d.entries[j] := by
  rw [DeferralTable.put_entries, set_get]

/-- The entry is as FREE and as live as before, for the same requester under the same key. -/
structure SameHolder (e e' : Entry) : Prop where
  live : e'.live = e.live
  free : e'.state = .free ↔ e.state = .free
  requester : e'.requester = e.requester
  key : e'.key = e.key

theorem SameHolder.refl (e : Entry) : SameHolder e e := ⟨rfl, .rfl, rfl, rfl⟩

/-- An entry that is live before and after. -/
theorem sameHolder_of_live {e e' : Entry} (hlive : e.live = true) (hlive' : e'.live = true)
    (hrequester : e'.requester = e.requester) (hkey : e'.key = e.key) : SameHolder e e' := by
  have hfree : ∀ {x : Entry}, x.live = true → x.state ≠ .free := fun {x} hx h => by simp [Entry.live, h] at hx
  exact ⟨hlive'.trans hlive.symm, iff_of_false (hfree hlive') (hfree hlive), hrequester, hkey⟩

/-- Reservations are no part of it. -/
theorem sameHolder_of_unreserved {e e' : Entry} (h : e'.unreserved = e.unreserved) : SameHolder e e' :=
  ⟨by simpa [Entry.live] using congrArg Entry.live h, by simpa using congrArg (fun x => x.state = .free) h,
    show e'.unreserved.requester = e.unreserved.requester by rw [h],
    show e'.unreserved.key = e.unreserved.key by rw [h]⟩

theorem sameHolder_freshened (l : DownLine) (e : Entry) : SameHolder e (e.freshened l) :=
  ⟨e.freshened_live l, iff_of_eq (e.freshened_free l), e.freshened_requester l, e.freshened_key l⟩

theorem sameHolder_tick (e : Entry) : SameHolder e e.tick := ⟨rfl, .rfl, rfl, rfl⟩

theorem live_of_state {e : Entry} (h : e.state = .waiting ∨ e.state = .issued ∨ e.state = .held) : e.live = true := by
  rcases h with h | h | h <;> simp [Entry.live, h]

theorem sameHolder_enterHeld {e : Entry} (result : Status) (time : Nat)
    (h : e.state = .waiting ∨ e.state = .issued) : SameHolder e (e.enterHeld result time) :=
  sameHolder_of_live (live_of_state (h.imp id .inl)) rfl rfl rfl

theorem sameHolder_completed {e : Entry} (checkOk : Bool) (st : Status) (data : List Byte) (time : Nat)
    (h : e.state = .issued) : SameHolder e (e.completed checkOk st data time) := by
  have hlive := live_of_state (.inr (.inl h))
  unfold Entry.completed
  split
  · split
    · split <;> exact sameHolder_of_live hlive rfl rfl rfl
    · exact sameHolder_of_live hlive rfl rfl rfl
  · exact sameHolder_of_live hlive rfl rfl rfl

theorem sameHolder_accounted (r : RequesterNo) (failed : Bool) (time : Nat) (e : Entry) :
    SameHolder e (e.accounted r failed time) := by
  obtain h | ⟨hstate, -, n, marked, -, ⟨-, h⟩ | ⟨-, result, h⟩⟩ := e.accounted_cases r failed time <;> rw [h]
  · exact .refl e
  · exact ⟨rfl, .rfl, rfl, rfl⟩
  · exact sameHolder_of_live (live_of_state (.inl hstate)) rfl rfl rfl

/-- What entering DOWN makes of an entry: an ORPHANED one may become FREE, and any other keeps its holder. -/
theorem linkLost_cases (time : Nat) (e : Entry) :
    SameHolder e (e.linkLost time) ∨ e.state = .orphaned ∧ e.linkLost time = Entry.free := by
  unfold Entry.linkLost
  cases hstate : e.state with
  | waiting => exact .inl (sameHolder_enterHeld _ _ (.inl hstate))
  | issued =>
    dsimp only
    split
    · exact .inl (sameHolder_enterHeld _ _ (.inr hstate))
    · exact .inl (.refl e)
  | orphaned =>
    dsimp only
    split
    · exact .inr ⟨rfl, rfl⟩
    · exact .inl (.refl e)
  | held | free => exact .inl (.refl e)

theorem flightLost_cases (time : Nat) (e : Entry) :
    SameHolder e (e.flightLost time) ∨ e.state = .orphaned ∧ e.flightLost time = Entry.free := by
  unfold Entry.flightLost
  cases hstate : e.state with
  | issued => exact .inl (sameHolder_enterHeld _ _ (.inr hstate))
  | orphaned => exact .inr ⟨rfl, rfl⟩
  | waiting | held | free => exact .inl (.refl e)

/-- R141, R143: the two parts of entering DOWN, of which the second comes only to the entries that members refer to. -/
theorem membersSettled_entry (s : State) (i : EntryNo) :
    (membersSettled s).dt.entries[i] = s.dt.entries[i].linkLost s.mnt.settings.discardTime.toNat ∨
      (membersSettled s).dt.entries[i] =
        (s.dt.entries[i].linkLost s.mnt.settings.discardTime.toNat).flightLost s.mnt.settings.discardTime.toNat := by
  have hmnt : s.loseLink.mnt = s.mnt := by rw [loseLink_frame]
  rw [membersSettled, settleFlights_get (loseLink_not_waiting s), loseLink_get, hmnt]
  split
  · exact .inr rfl
  · exact .inl rfl

theorem membersSettled_cases (s : State) (i : EntryNo) :
    SameHolder s.dt.entries[i] (membersSettled s).dt.entries[i] ∨
      s.dt.entries[i].state = .orphaned ∧ (membersSettled s).dt.entries[i] = Entry.free := by
  have horphan : ∀ {e e' : Entry}, SameHolder e e' → e'.state = .orphaned → e.state = .orphaned := fun {e e'} h he' => by
    have hlive := h.live
    have hfree := h.free
    cases he : e.state <;> simp_all [Entry.live]
  obtain h | h := membersSettled_entry s i <;> rw [h]
  · exact linkLost_cases _ _
  · obtain hlost | ⟨hstate, hlost⟩ := linkLost_cases s.mnt.settings.discardTime.toNat s.dt.entries[i]
    · obtain hflight | ⟨hstate, hflight⟩ := flightLost_cases s.mnt.settings.discardTime.toNat
        (s.dt.entries[i].linkLost s.mnt.settings.discardTime.toNat)
      · exact .inl ⟨hflight.live.trans hlost.live, hflight.free.trans hlost.free,
          hflight.requester.trans hlost.requester, hflight.key.trans hlost.key⟩
      · exact .inr ⟨horphan hlost hstate, hflight⟩
    · rw [hlost]
      exact .inr ⟨hstate, rfl⟩

/-! ## The table -/

/-- Entries leave the table alone. -/
structure Thinned (s t : State) : Prop where
  survive : ∀ i : EntryNo, t.dt.entries[i].live = true →
    s.dt.entries[i].live = true ∧ t.dt.entries[i].key = s.dt.entries[i].key
  age : ∃ q : EntryNo → Bool, t.dt.age = s.dt.age.filter q ∧
    ∀ i : EntryNo, t.dt.entries[i].state ≠ .free ↔ s.dt.entries[i].state ≠ .free ∧ q i = true
  held : s.HeldCountsExact → t.HeldCountsExact

/-- The entries that a held count counts. -/
def countedBy (r : RequesterNo) (e : Entry) : Bool := e.live && e.requester == some r

theorem liveCount_eq (r : RequesterNo) (s : State) :
    s.liveCount r = (List.finRange 24).countP fun i => countedBy r s.dt.entries[i] := rfl

theorem liveCount_congr {s t : State} {r : RequesterNo}
    (h : ∀ i : EntryNo, countedBy r t.dt.entries[i] = countedBy r s.dt.entries[i]) : t.liveCount r = s.liveCount r := by
  rw [liveCount_eq, liveCount_eq]
  exact List.countP_congr fun i _ => by rw [h i]

theorem SameHolder.countedBy {e e' : Entry} (h : SameHolder e e') (r : RequesterNo) :
    countedBy r e' = countedBy r e := by
  rw [HolderProofs.countedBy, h.live, h.requester]
  rfl

theorem liveCount_eq_zero {s : State} (h : ∀ i : EntryNo, s.dt.entries[i].live = false) (r : RequesterNo) :
    s.liveCount r = 0 :=
  List.countP_eq_zero.2 fun i _ => by simp [-Fin.getElem_fin, h i]

theorem countP_filter_split {α : Type} (a g : α → Bool) (l : List α) :
    l.countP a = l.countP (fun x => a x && !g x) + (l.filter g).countP a := by
  induction l with
  | nil => rfl
  | cons x l ih =>
    rw [List.countP_cons, List.countP_cons, List.filter_cons, ih]
    cases ha : a x <;> cases hg : g x <;> simp [ha] <;> omega

/-- R41: the held counts fall by the live entries that leave. -/
theorem held_lowered {s t : State} (g : EntryNo → Bool)
    (hrqt : t.rqt = s.rqt.lowerHeld s.dt.entries ((List.finRange 24).filter g))
    (hentries : ∀ (r : RequesterNo) (i : EntryNo),
      countedBy r t.dt.entries[i] = (countedBy r s.dt.entries[i] && !g i)) (hs : s.HeldCountsExact) :
    t.HeldCountsExact := by
  intro r
  have hcount := countP_filter_split (fun i => countedBy r s.dt.entries[i]) g (List.finRange 24)
  rw [← liveCount_eq, ← hs r] at hcount
  have ht : t.liveCount r = (List.finRange 24).countP fun i => countedBy r s.dt.entries[i] && !g i := by
    rw [liveCount_eq]
    exact List.countP_congr fun i _ => by rw [hentries r i]
  rw [ht, hrqt, RequesterTable.lowerHeld_get]
  exact Nat.sub_eq_of_eq_add hcount

theorem filter_eq_singleton (i : EntryNo) : (List.finRange 24).filter (· == i) = [i] := by
  rw [List.filter_beq, List.count_eq_one_of_mem (List.nodup_finRange 24) (List.mem_finRange i)]
  rfl

theorem thinned_of_sameEntries {s t : State} (hentries : ∀ i : EntryNo, SameHolder s.dt.entries[i] t.dt.entries[i])
    (hage : t.dt.age = s.dt.age) (hheld : s.HeldCountsExact → t.HeldCountsExact) : Thinned s t where
  survive i hlive := ⟨(hentries i).live ▸ hlive, (hentries i).key⟩
  age := ⟨fun _ => true, by rw [hage, List.filter_true], fun i => by simp [-Fin.getElem_fin, (hentries i).free]⟩
  held := hheld

theorem thinned_of_same {s t : State} (hentries : ∀ i : EntryNo, SameHolder s.dt.entries[i] t.dt.entries[i])
    (hage : t.dt.age = s.dt.age) (hheld : ∀ r : RequesterNo, t.rqt.requesters[r].held = s.rqt.requesters[r].held) :
    Thinned s t :=
  thinned_of_sameEntries hentries hage fun hs r => by
    rw [hheld, hs r, liveCount_congr fun i => (hentries i).countedBy r]

theorem thinned_of_none {s t : State} (hage : t.dt.age = [])
    (hentries : ∀ i : EntryNo, t.dt.entries[i].state = .free)
    (hheld : ∀ r : RequesterNo, t.rqt.requesters[r].held = 0) : Thinned s t where
  survive i hlive := by simp [-Fin.getElem_fin, Entry.live, hentries i] at hlive
  age := ⟨fun _ => false, by rw [hage, List.filter_false], fun i => by simp [-Fin.getElem_fin, hentries i]⟩
  held _ r := by rw [hheld, liveCount_eq_zero fun i => by simp [-Fin.getElem_fin, Entry.live, hentries i]]

theorem thinned_of_released {s t : State} (i : EntryNo) (hrqt : t.rqt = s.rqt.lowerHeld s.dt.entries [i])
    (hdt : t.dt = s.dt.clear [i]) : Thinned s t where
  survive j hlive := by
    rw [hdt, DeferralTable.clear_get] at hlive ⊢
    split at hlive
    · cases hlive
    · next hj =>
      rw [if_neg hj]
      exact ⟨hlive, rfl⟩
  age := by
    refine ⟨fun j => decide (j ∉ [i]), by rw [hdt]; rfl, fun j => ?_⟩
    rw [hdt, DeferralTable.clear_get]
    split
    · next hj => simp [hj, Entry.free]
    · next hj => simp only [decide_eq_true hj, and_true]
  held := by
    refine held_lowered (· == i) (by rw [hrqt, filter_eq_singleton]) fun r j => ?_
    rw [hdt, DeferralTable.clear_get]
    by_cases hj : j = i
    · simp [hj, countedBy, Entry.live, Entry.free]
    · simp [hj]

theorem withdrawn_free_iff (e : Entry) : e.withdrawn.state ≠ .free ↔ e.state ≠ .free ∧ e.withdrawalFrees = false := by
  unfold Entry.withdrawn Entry.withdrawalFrees
  cases h : e.state <;> simp [h, Entry.free]

theorem thinned_of_withdrawn {s t : State} (p : Entry → Bool) (hrqt : t.rqt = (s.withdraw p).rqt)
    (hdt : t.dt = (s.withdraw p).dt) : Thinned s t where
  survive i hlive := by
    rw [hdt, State.withdraw_get] at hlive ⊢
    split at hlive
    · rw [Entry.withdrawn_not_live] at hlive
      cases hlive
    · next hp =>
      rw [if_neg hp]
      exact ⟨hlive, rfl⟩
  age := by
    refine ⟨fun i => decide (i ∉ s.withdrawalFreed p), by rw [hdt]; rfl, fun i => ?_⟩
    rw [hdt, State.withdraw_get, decide_eq_true_iff, State.withdrawalFreed, mem_entriesWhere, Bool.and_eq_true, not_and,
      Bool.not_eq_true]
    split
    · next hp => simp [-Fin.getElem_fin, withdrawn_free_iff, hp]
    · next hp => simp [-Fin.getElem_fin, hp]
  held := by
    refine held_lowered (fun i => p s.dt.entries[i]) (by rw [hrqt]; rfl) fun r i => ?_
    rw [hdt, State.withdraw_get, countedBy, countedBy]
    split
    · next hp => rw [Entry.withdrawn_not_live, hp, Bool.not_true, Bool.and_false, Bool.false_and]
    · next hp => rw [Bool.eq_false_iff.2 hp, Bool.not_false, Bool.and_true]

theorem thinned_of_lost {s t : State} (hrqt : t.rqt = s.rqt) (hdt : t.dt = (lost s).dt) : Thinned s t where
  survive i hlive := by
    rw [hdt] at hlive ⊢
    obtain h | ⟨-, h⟩ := membersSettled_cases s i
    · exact ⟨h.live ▸ hlive, h.key⟩
    · exact absurd ((congrArg Entry.live h).symm.trans hlive) Bool.false_ne_true
  age := by
    refine ⟨fun i => decide (i ∉ freedByLoss s), by rw [hdt]; rfl, fun i => ?_⟩
    have hmem : i ∈ freedByLoss s ↔
        s.dt.entries[i].state = .orphaned ∧ (membersSettled s).dt.entries[i].state = .free := by
      rw [freedByLoss, List.mem_filter, State.orphans, mem_entriesWhere, beq_iff_eq, beq_iff_eq]
    rw [hdt, decide_eq_true_iff, hmem]
    show (membersSettled s).dt.entries[i].state ≠ .free ↔ _
    obtain h | ⟨horphan, h⟩ := membersSettled_cases s i
    · rw [ne_eq, h.free]
      refine ⟨fun hfree => ⟨hfree, fun hgone => hfree hgone.2⟩, And.left⟩
    · simp [-Fin.getElem_fin, h, horphan, Entry.free]
  held hs r := by
    have hentries : ∀ i : EntryNo, countedBy r t.dt.entries[i] = countedBy r s.dt.entries[i] := fun i => by
      rw [hdt]
      obtain h | ⟨horphan, h⟩ := membersSettled_cases s i
      · exact h.countedBy r
      · have hdead : s.dt.entries[i].live = false := by rw [Entry.live, horphan]
        rw [show (lost s).dt.entries[i] = Entry.free from h, countedBy, countedBy, hdead]
        rfl
    rw [hrqt, hs r, liveCount_congr hentries]

theorem offer_sameHolder (is : List EntryNo) (s : State) (i : EntryNo) :
    SameHolder s.dt.entries[i] (s.offer is).dt.entries[i] := by
  rw [State.offer_entries]
  exact sameHolder_of_unreserved (offerAll_content ..)

theorem put_sameHolder {s : State} {i : EntryNo} {e : Entry} (h : SameHolder s.dt.entries[i] e) (j : EntryNo) :
    SameHolder s.dt.entries[j] (s.dt.put i e).entries[j] := by
  rw [put_get]
  split
  · next hj => rwa [hj]
  · exact .refl _

theorem released_entry {r : RequesterNo} (s : State) (i : EntryNo) :
    ((dismissed r s).dt.entries[i]).unreserved = s.dt.entries[i].unreserved := by
  simp only [dismissed, DeferralTable.releaseReservation, mapTable_get]
  split <;> rfl

/-- R76: the held count of a requester with no live entry is 0. -/
theorem thinned_of_dismissed {s t : State} {r : RequesterNo} {is : List EntryNo}
    (hgone : ∀ i : EntryNo, s.dt.entries[i].requester = some r → s.dt.entries[i].live = false)
    (hrqt : t.rqt = (dismissed r s).rqt) (hdt : t.dt = ((dismissed r s).offer is).dt) : Thinned s t := by
  have hentries : ∀ i : EntryNo, SameHolder s.dt.entries[i] t.dt.entries[i] := fun i => by
    rw [hdt, State.offer_entries]
    exact sameHolder_of_unreserved ((offerAll_content ..).trans (released_entry s i))
  have hage : t.dt.age = s.dt.age := by
    rw [hdt, State.offer_age]
    simp only [dismissed, DeferralTable.releaseReservation]
  refine thinned_of_sameEntries hentries hage fun hs q => ?_
  rw [liveCount_congr fun i => (hentries i).countedBy q, hrqt, dismissed, RequesterTable.update_get]
  split
  · next hq =>
    refine (List.countP_eq_zero.2 fun i _ => ?_).symm
    rw [Bool.and_eq_true, beq_iff_eq]
    rintro ⟨hlive, hrequester⟩
    rw [hgone i (hq ▸ hrequester)] at hlive
    cases hlive
  · exact hs q

theorem thinned_of_allDismissed {s t : State} (hgone : ∀ i : EntryNo, s.dt.entries[i].live = false)
    (hrqt : t.rqt = (allDismissed s).rqt) (hdt : t.dt = (allDismissed s).dt) : Thinned s t := by
  have hentries : ∀ i : EntryNo, SameHolder s.dt.entries[i] t.dt.entries[i] := fun i => by
    rw [hdt, allDismissed, mapTable_get]
    exact sameHolder_of_unreserved rfl
  have hage : t.dt.age = s.dt.age := by
    rw [hdt]
    simp only [allDismissed]
  refine thinned_of_sameEntries hentries hage fun _ q => ?_
  rw [liveCount_eq_zero fun i => (hentries i).live.trans (hgone i), hrqt, allDismissed, mapTable_get]

/-! ## The moves and the answers -/

/-- A move creates an entry, or entries leave the table alone. -/
theorem move_thinned {s t : State} (h : Move s t) :
    Thinned s t ∨ s.mnt.opState = .active ∧
      ∃ (i : EntryNo) (e : Entry) (r : RequesterNo), s.dt.entries[i].state = .free ∧ NewEntry s e r ∧
      (∀ j : EntryNo, s.dt.entries[j].live = true → s.dt.entries[j].key ≠ e.key) ∧
      t.dt = (s.create i e r).dt ∧ t.rqt = (s.create i e r).rqt := by
  cases h with
  | create i e r hactive havailable hnew hkey =>
    exact .inr ⟨hactive, i, e, r, (DeferralTable.available_free havailable).1, hnew, hkey, rfl, rfl⟩
  | aside h =>
    have hdt := h.dt
    exact .inl (thinned_of_same (fun i => by rw [hdt]; exact .refl _) (by rw [hdt]) h.held)
  | settleQuiesce =>
    rw [State.settleQuiesce_eq]
    exact .inl (thinned_of_same (fun _ => .refl _) rfl fun _ => rfl)
  | offer is _ => exact .inl (thinned_of_same (offer_sameHolder is s) rfl fun _ => rfl)
  | freshen l =>
    refine .inl (thinned_of_same (fun i => ?_) (s.freshen_age l) fun _ => rfl)
    show SameHolder _ (s.freshen l).dt.entries[i]
    rw [State.freshen_get]
    exact sameHolder_freshened l _
  | grantRead i t _ hwaiting _ _ =>
    exact .inl (thinned_of_same (put_sameHolder (sameHolder_of_live (live_of_state (.inl hwaiting)) rfl rfl rfl)) rfl
      fun _ => rfl)
  | launch i out _ _ hwaiting _ =>
    exact .inl (thinned_of_same (put_sameHolder (sameHolder_of_live (live_of_state (.inl hwaiting)) rfl rfl rfl)) rfl
      fun _ => rfl)
  | releaseHeld i _ => exact .inl (thinned_of_released i rfl rfl)
  | unreserve i _ => exact .inl (thinned_of_same (put_sameHolder (sameHolder_of_unreserved rfl)) rfl fun _ => rfl)
  | timeoutIssued i t r a _ hissued _ =>
    exact .inl (thinned_of_same (put_sameHolder (sameHolder_enterHeld _ _ (.inr hissued))) rfl fun _ => rfl)
  | timeoutOrphan i t r a _ _ => exact .inl (thinned_of_released i rfl rfl)
  | lose => exact .inl (thinned_of_lost rfl rfl)
  | withdraw p => exact .inl (thinned_of_withdrawn p rfl rfl)
  | dismiss r is hgone _ => exact .inl (thinned_of_dismissed hgone rfl rfl)
  | dismissAll hgone => exact .inl (thinned_of_allDismissed hgone rfl rfl)
  | clearPath =>
    refine .inl (thinned_of_none rfl (fun i => ?_) fun r => ?_)
    · simp [Entry.free]
    · simp only [pathCleared, mapTable_get]
  | reset =>
    refine .inl (thinned_of_none rfl (fun i => ?_) fun r => ?_)
    · show State.reset.dt.entries[i].state = _
      rw [ResetProofs.reset_entry]
      rfl
    · show State.reset.rqt.requesters[r].held = _
      rw [ResetProofs.reset_requester]
      rfl
  | tick _ =>
    refine .inl (thinned_of_same (fun i => ?_) s.tick_age fun _ => rfl)
    show SameHolder _ s.tick.dt.entries[i]
    rw [State.tick_get]
    exact sameHolder_tick _
  | _ => exact .inl (thinned_of_same (fun _ => .refl _) rfl fun _ => rfl)

theorem completed_thinned {s t : State} (h : Completed s t) : Thinned s t := by
  cases h with
  | none => exact thinned_of_same (fun _ => .refl _) rfl fun _ => rfl
  | issued t i checkOk st data _ hissued =>
    exact thinned_of_same (put_sameHolder (sameHolder_completed _ _ _ _ hissued)) rfl fun _ => rfl
  | orphan t i _ _ => exact thinned_of_released i rfl rfl

theorem acked_thinned {s t : State} (h : Acked s t) : Thinned s t := by
  cases h with
  | none | stray => exact thinned_of_same (fun _ => .refl _) rfl fun _ => rfl
  | posted f fs r failed _ _ _ =>
    refine thinned_of_same (fun i => ?_) (s.depart_age r failed) fun _ => rfl
    show SameHolder _ (s.depart r failed).dt.entries[i]
    rw [State.depart_get]
    exact sameHolder_accounted _ _ _ _
  | issued f fs i st _ _ hissued =>
    exact thinned_of_same (put_sameHolder (sameHolder_enterHeld _ _ (.inr hissued))) rfl fun _ => rfl
  | orphan f fs i _ _ _ => exact thinned_of_released i rfl rfl

/-! ## Creation -/

theorem newEntry_live {s : State} {e : Entry} {r : RequesterNo} (h : NewEntry s e r) :
    e.state = .waiting ∧ e.requester = some r := by
  cases h with
  | read | npWrite | sync => exact ⟨rfl, rfl⟩

theorem created_get (i j : EntryNo) (e : Entry) (r : RequesterNo) (s : State) :
    (s.create i e r).dt.entries[j] = if j = i then e else s.dt.entries[j] := by
  rw [State.create_entries, set_get]

/-- A held count rises with the entry created, which was FREE. -/
theorem liveCount_create {s : State} {i : EntryNo} {e : Entry} {r : RequesterNo} (hfree : s.dt.entries[i].state = .free)
    (he : e.state = .waiting ∧ e.requester = some r) (q : RequesterNo) :
    (s.create i e r).liveCount q = s.liveCount q + if r = q then 1 else 0 := by
  obtain ⟨hstate, hrequester⟩ := he
  have hsplit := countP_filter_split (fun j => countedBy q (s.create i e r).dt.entries[j]) (· == i) (List.finRange 24)
  rw [filter_eq_singleton, ← liveCount_eq] at hsplit
  rw [hsplit, liveCount_eq]
  congr 1
  · refine List.countP_congr fun j _ => ?_
    rw [created_get]
    by_cases hj : j = i
    · subst hj
      simp [-Fin.getElem_fin, countedBy, Entry.live, hfree]
    · simp [hj]
  · rw [List.countP_singleton, created_get, if_pos rfl, countedBy, Entry.live, hstate, hrequester]
    simp

theorem create_held {s : State} {i : EntryNo} {e : Entry} {r : RequesterNo} (hfree : s.dt.entries[i].state = .free)
    (he : e.state = .waiting ∧ e.requester = some r) (hs : s.HeldCountsExact) :
    (s.create i e r).HeldCountsExact := by
  intro q
  rw [liveCount_create hfree he, State.create_rqt, RequesterTable.update_get]
  by_cases hq : q = r
  · subst hq
    rw [if_pos rfl, if_pos rfl, hs q]
  · rw [if_neg hq, if_neg (Ne.symm hq), hs q, Nat.add_zero]

theorem create_age {s : State} {i : EntryNo} {e : Entry} {r : RequesterNo} (hfree : s.dt.entries[i].state = .free)
    (he : e.state = .waiting) (hs : s.AgeOrderExact) : (s.create i e r).AgeOrderExact := by
  obtain ⟨hnodup, hmem⟩ := hs
  have hi : i ∉ s.dt.age := fun h => (hmem i).1 h hfree
  refine ⟨?_, fun j => ?_⟩
  · rw [State.create_age]
    exact List.nodup_append.2 ⟨hnodup, List.nodup_singleton i, fun a ha b hb => by
      rw [List.mem_singleton.1 hb]
      exact fun h => hi (h ▸ ha)⟩
  · rw [State.create_age, List.mem_append, List.mem_singleton, hmem, created_get]
    by_cases hj : j = i
    · simp [hj, he]
    · simp [hj]

theorem create_keys {s : State} {i : EntryNo} {e : Entry} {r : RequesterNo}
    (hkey : ∀ j : EntryNo, s.dt.entries[j].live = true → s.dt.entries[j].key ≠ e.key) (hs : s.KeysDistinct) :
    (s.create i e r).KeysDistinct := by
  intro j k hj hk hsame
  rw [created_get] at hj hk hsame
  rw [created_get] at hsame
  split at hj <;> rename_i hji <;> split at hk <;> rename_i hki
  · rw [hji, hki]
  · rw [if_pos hji, if_neg hki] at hsame
    exact absurd hsame.symm (hkey k hk)
  · rw [if_neg hji, if_pos hki] at hsame
    exact absurd hsame (hkey j hj)
  · rw [if_neg hji, if_neg hki] at hsame
    exact hs j k hj hk hsame

/-! ## The invariants -/

theorem Thinned.ageOrderExact {s t : State} (h : Thinned s t) (hs : s.AgeOrderExact) : t.AgeOrderExact := by
  obtain ⟨q, hage, hfree⟩ := h.age
  obtain ⟨hnodup, hmem⟩ := hs
  rw [State.AgeOrderExact, hage]
  exact ⟨hnodup.filter q, fun i => by rw [List.mem_filter, hmem, hfree]⟩

theorem Thinned.keysDistinct {s t : State} (h : Thinned s t) (hs : s.KeysDistinct) : t.KeysDistinct := by
  intro i j hi hj hkey
  obtain ⟨hi', hikey⟩ := h.survive i hi
  obtain ⟨hj', hjkey⟩ := h.survive j hj
  exact hs i j hi' hj' (hikey ▸ hjkey ▸ hkey)

theorem move_held {s t : State} (h : Move s t) (hs : s.HeldCountsExact) : t.HeldCountsExact := by
  obtain h | ⟨-, i, e, r, hfree, hnew, -, hdt, hrqt⟩ := move_thinned h
  · exact h.held hs
  · have hcreated := create_held hfree (newEntry_live hnew) hs
    intro q
    rw [hrqt, hcreated q, State.liveCount, State.liveCount, hdt]

theorem move_age {s t : State} (h : Move s t) (hs : s.AgeOrderExact) : t.AgeOrderExact := by
  obtain h | ⟨-, i, e, r, hfree, hnew, -, hdt, -⟩ := move_thinned h
  · exact h.ageOrderExact hs
  · rw [State.AgeOrderExact, hdt]
    exact create_age hfree (newEntry_live hnew).1 hs

theorem move_keys {s t : State} (h : Move s t) (hs : s.KeysDistinct) : t.KeysDistinct := by
  obtain h | ⟨-, i, e, r, -, -, hkey, hdt, -⟩ := move_thinned h
  · exact h.keysDistinct hs
  · rw [State.KeysDistinct, hdt]
    exact create_keys hkey hs

/-- Settles O53: a creation counts its entry, and what leaves the table leaves the count. -/
theorem stepKeepsHeldCountsExact : Obligations.StepKeepsHeldCountsExact :=
  fun _ _ => step_keeps (fun _ _ => id) (fun _ _ h => (completed_thinned h).held)
    (fun _ _ h => (acked_thinned h).held) fun _ _ => move_held

/-- Settles O54: a creation appends its entry under a key that no live entry has, and nothing else adds one. -/
theorem stepKeepsAgeOrderAndKeys : Obligations.StepKeepsAgeOrderAndKeys := fun _ _ h =>
  ⟨fun hs => step_keeps (fun _ _ => id) (fun _ _ h => (completed_thinned h).ageOrderExact)
      (fun _ _ h => (acked_thinned h).ageOrderExact) (fun _ _ => move_age) hs h,
    fun hs => step_keeps (fun _ _ => id) (fun _ _ h => (completed_thinned h).keysDistinct)
      (fun _ _ h => (acked_thinned h).keysDistinct) (fun _ _ => move_keys) hs h⟩

end Sys2Proof.HolderProofs

/-! # Proofs: the invariant of formed entries -/

namespace Sys2Proof.FormedProofs

open Sys2Proof Sys2Proof.Machine Sys2Proof.Claims Sys2Proof.MoveProofs Sys2Proof.CommandProofs Sys2Proof.LinkDownProofs
  Sys2Proof.WindowCommitProofs Sys2Proof.FreshnessProofs Sys2Proof.HolderProofs

/-! ## One entry -/

/-- The fields that R36 gives an entry of its kind. -/
def kindFields (e : Entry) : Bool :=
  match e.kind with
  | some .read => e.readFields
  | some .npWrite => e.npWriteFields
  | some .sync => e.syncFields
  | none => false

/-- R36: what an entry that is not FREE has. -/
theorem formed_iff {e : Entry} (h : e.state ≠ .free) :
    e.formed = true ↔
      e.reservedFor = none ∧ e.reservationTimer = none ∧ e.requester.isSome = true ∧
        e.key.map MatchKey.requester = e.requester ∧ e.tag.isSome = e.readInFlight ∧
        e.completionTimer.isSome = e.readInFlight ∧ e.discardTimer.isSome = (e.state == .held) ∧
        e.result.isSome = (e.state == .held) ∧ kindFields e = true := by
  rw [Entry.formed, if_neg h]
  simp only [Bool.and_eq_true, Option.isNone_iff_eq_none, beq_iff_eq, and_assoc]
  exact .rfl

/-- R36: a FREE entry has its reservation alone. -/
theorem formed_free_iff {e : Entry} (h : e.state = .free) :
    e.formed = true ↔
      e = { Entry.free with reservedFor := e.reservedFor, reservationTimer := e.reservationTimer } ∧
        e.reservedFor.isSome = e.reservationTimer.isSome := by
  rw [Entry.formed, if_pos h, Bool.and_eq_true, beq_iff_eq, beq_iff_eq]

theorem free_formed : Entry.free.formed = true := rfl

/-- R36: a reservation stands on FREE entries alone. -/
theorem free_of_reserved {e : Entry} {r : RequesterNo} (hformed : e.formed = true) (h : e.reservedFor = some r) :
    e.state = .free := by
  by_contra hstate
  rw [((formed_iff hstate).1 hformed).1] at h
  cases h

theorem unreserved_of_formed {e : Entry} (hformed : e.formed = true) (h : e.state ≠ .free) : e.unreserved = e := by
  obtain ⟨hreserved, htimer, -⟩ := (formed_iff h).1 hformed
  rw [Entry.unreserved, ← hreserved, ← htimer]

theorem unreserved_formed {e : Entry} (hformed : e.formed = true) : e.unreserved.formed = true := by
  by_cases h : e.state = .free
  · rw [((formed_free_iff h).1 hformed).1]
    rfl
  · rwa [unreserved_of_formed hformed h]

theorem reserved_formed {e : Entry} (r : RequesterNo) (time : Nat) (hformed : e.formed = true) (h : e.state = .free) :
    Entry.formed { e with reservedFor := some r, reservationTimer := some time } = true := by
  rw [((formed_free_iff h).1 hformed).1]
  simp [Entry.formed, Entry.free]

theorem tickTimer_isSome (t : Option Nat) : (tickTimer t).isSome = t.isSome := by
  cases t <;> rfl

theorem tick_formed {e : Entry} (hformed : e.formed = true) : e.tick.formed = true := by
  by_cases h : e.state = .free
  · obtain ⟨he, hsome⟩ := (formed_free_iff h).1 hformed
    refine (formed_free_iff (e := e.tick) h).2 ⟨?_, hsome.trans (tickTimer_isSome _).symm⟩
    rw [he]
    rfl
  · obtain ⟨hreserved, htimer, hrequester, hkey, htag, hcompletion, hdiscard, hrest⟩ := (formed_iff h).1 hformed
    refine (formed_iff (e := e.tick) h).2 ⟨hreserved, ?_, hrequester, hkey, htag, ?_, ?_, hrest⟩
    · simp only [Entry.tick, htimer]
      rfl
    · exact (tickTimer_isSome _).trans hcompletion
    · exact (tickTimer_isSome _).trans hdiscard

/-- R54: HELD with a result; an OK READ is HELD with its data alone. -/
theorem enterHeld_formed {e : Entry} {result : Status} (time : Nat) (hformed : e.formed = true)
    (hstate : e.state = .waiting ∨ e.state = .issued) (hread : e.kind = some .read → result ≠ .ok) :
    (e.enterHeld result time).formed = true := by
  have hfree : e.state ≠ .free := by rcases hstate with h | h <;> simp [h]
  obtain ⟨hreserved, htimer, hrequester, hkey, -, -, -, -, hfields⟩ := (formed_iff hfree).1 hformed
  refine (formed_iff (by simp)).2 ⟨hreserved, htimer, hrequester, hkey, ?_, ?_, rfl, rfl, ?_⟩
  · simp [beq_false_of_ne, Entry.enterHeld, Entry.readInFlight]
  · simp [beq_false_of_ne, Entry.enterHeld, Entry.readInFlight]
  unfold kindFields at hfields ⊢
  cases hkind : e.kind with
  | none => simp [hkind] at hfields
  | some k =>
    cases k with
    | read =>
      rcases hstate with h | h <;>
        simp_all [beq_false_of_ne, Entry.enterHeld, Entry.readFields]
    | npWrite => simp_all [Entry.enterHeld, Entry.npWriteFields]
    | sync => simp_all [beq_false_of_ne, Entry.enterHeld, Entry.syncFields]

theorem waiting_or_issued_of_sync {e : Entry} (hformed : e.formed = true) (hkind : e.kind = some .sync) :
    e.state ≠ .issued := by
  intro h
  have hfields := ((formed_iff (by simp [h])).1 hformed).2.2.2.2.2.2.2.2
  simp [kindFields, hkind, Entry.syncFields, h] at hfields

/-- R119: what a completion makes of an ISSUED entry. -/
theorem completed_formed {e : Entry} (checkOk : Bool) (st : Status) (data : List Byte) (time : Nat)
    (hformed : e.formed = true) (hstate : e.state = .issued) : (e.completed checkOk st data time).formed = true := by
  unfold Entry.completed
  split
  · obtain ⟨hreserved, htimer, hrequester, hkey, -, -, hdiscard, -, hfields⟩ :=
      (formed_iff (by simp [hstate])).1 hformed
    have hdiscard : e.discardTimer = none := by simpa [beq_false_of_ne, hstate] using hdiscard
    unfold kindFields at hfields
    cases hkind : e.kind with
    | none => simp [hkind] at hfields
    | some k =>
      cases k with
      | read =>
        split
        · split <;> simp_all [beq_false_of_ne, Entry.formed, Entry.enterHeld, Entry.readFields, Entry.readInFlight]
        · simp_all [beq_false_of_ne, Entry.formed, Entry.enterHeld, Entry.readFields, Entry.readInFlight]
      | npWrite =>
        have hstale : e.stale = false := by simp_all [beq_false_of_ne, Entry.npWriteFields]
        simp_all [beq_false_of_ne, Entry.formed, Entry.enterHeld, Entry.npWriteFields, Entry.readInFlight]
      | sync => exact absurd hstate (waiting_or_issued_of_sync hformed hkind)
  · next hresult => exact enterHeld_formed time hformed (.inr hstate) fun _ => hresult

theorem freshened_formed {e : Entry} (l : DownLine) (hformed : e.formed = true) : (e.freshened l).formed = true := by
  obtain h | ⟨hkind, hstate, hresult, ⟨h, hrefetch⟩ | h⟩ | ⟨hkind, hstate, h⟩ := e.freshened_cases l <;> rw [h]
  · exact hformed
  · obtain ⟨hreserved, htimer, hrequester, hkey, htag, hcompletion, -, -, hfields⟩ :=
      (formed_iff (by simp [hstate])).1 hformed
    refine (formed_iff (by simp [Entry.refetched])).2
      ⟨hreserved, htimer, hrequester, hkey, ?_, ?_, rfl, rfl, ?_⟩
    · simpa [beq_false_of_ne, Entry.refetched, Entry.readInFlight, hstate] using htag
    · simpa [beq_false_of_ne, Entry.refetched, Entry.readInFlight, hstate] using hcompletion
    · simp_all [beq_false_of_ne, kindFields, Entry.refetched, Entry.readFields]
  · simp_all [beq_false_of_ne, Entry.formed, Entry.readFields, Entry.readInFlight]
  · simp_all [beq_false_of_ne, Entry.formed, Entry.readFields, Entry.readInFlight]

theorem accounted_formed {e : Entry} (r : RequesterNo) (failed : Bool) (time : Nat) (hformed : e.formed = true) :
    (e.accounted r failed time).formed = true := by
  obtain h | ⟨hstate, hkind, n, marked, hpending, ⟨-, h⟩ | ⟨-, result, h⟩⟩ := e.accounted_cases r failed time <;>
    rw [h]
  · exact hformed
  · simp_all [beq_false_of_ne, Entry.formed, Entry.syncFields, Entry.readInFlight]
  · refine enterHeld_formed time ?_ (.inl hstate) fun h => ?_
    · simp_all [beq_false_of_ne, Entry.formed, Entry.syncFields, Entry.readInFlight]
    · simp [hkind] at h

theorem granted_read_formed {e : Entry} (t : TagNo) (time : Nat) (hformed : e.formed = true)
    (hstate : e.state = .waiting) (hkind : e.kind = some .read) :
    Entry.formed { e with state := .issued, tag := some t, completionTimer := some time } = true := by
  simp_all [beq_false_of_ne, Entry.formed, Entry.readFields, Entry.readInFlight]

theorem granted_npWrite_formed {e : Entry} (hformed : e.formed = true)
    (hstate : e.state = .waiting) (hkind : e.kind = some .npWrite) :
    Entry.formed { e with state := .issued } = true := by
  simp_all [beq_false_of_ne, Entry.formed, Entry.npWriteFields, Entry.readInFlight]

theorem withdrawn_formed {e : Entry} (hformed : e.formed = true) : e.withdrawn.formed = true := by
  unfold Entry.withdrawn
  cases hstate : e.state with
  | waiting | held => exact free_formed
  | free | orphaned => exact hformed
  | issued =>
    have hfields := ((formed_iff (by simp [hstate])).1 hformed).2.2.2.2.2.2.2.2
    unfold kindFields at hfields
    cases hkind : e.kind with
    | none => simp [hkind] at hfields
    | some k =>
      cases k with
      | read => simp_all [beq_false_of_ne, Entry.formed, Entry.readFields, Entry.readInFlight]
      | npWrite => simp_all [beq_false_of_ne, Entry.formed, Entry.npWriteFields, Entry.readInFlight]
      | sync => exact absurd hstate (waiting_or_issued_of_sync hformed hkind)

theorem linkLost_formed {e : Entry} (time : Nat) (hformed : e.formed = true) : (e.linkLost time).formed = true := by
  unfold Entry.linkLost
  cases hstate : e.state with
  | waiting => exact enterHeld_formed time hformed (.inl hstate) fun _ => Status.noConfusion
  | issued =>
    dsimp only
    split
    · exact enterHeld_formed time hformed (.inr hstate) fun _ => Status.noConfusion
    · exact hformed
  | orphaned =>
    dsimp only
    split
    · exact free_formed
    · exact hformed
  | held | free => exact hformed

theorem flightLost_formed {e : Entry} (time : Nat) (hformed : e.formed = true) :
    (e.flightLost time).formed = true := by
  unfold Entry.flightLost
  cases hstate : e.state with
  | issued => exact enterHeld_formed time hformed (.inr hstate) fun _ => Status.noConfusion
  | orphaned => exact free_formed
  | waiting | held | free => exact hformed

theorem readKey_requester (w : Window) (q : UpRequest) : (readKey w q).requester = q.requester := by
  unfold readKey
  cases w.fetchMode <;> rfl

theorem newEntry_formed {s : State} {e : Entry} {r : RequesterNo} (h : NewEntry s e r) : e.formed = true := by
  cases h with
  | read n w q =>
    simp [Entry.formed, readEntry, Entry.free, Entry.readFields, Entry.readInFlight, readKey_requester]
  | npWrite n w q =>
    simp [Entry.formed, npWriteEntry, Entry.free, Entry.npWriteFields, Entry.readInFlight, MatchKey.requester]
  | sync r _ => simp [Entry.formed, syncEntry, Entry.free, Entry.syncFields, Entry.readInFlight, MatchKey.requester]

/-! ## The table -/

theorem put_formed {s : State} {i : EntryNo} {e : Entry} (hs : s.EntriesFormed) (he : e.formed = true) (j : EntryNo) :
    (s.dt.put i e).entries[j].formed = true := by
  rw [put_get]
  split
  · exact he
  · exact hs j

theorem clear_formed {s : State} (is : List EntryNo) (hs : s.EntriesFormed) (j : EntryNo) :
    (s.dt.clear is).entries[j].formed = true := by
  rw [DeferralTable.clear_get]
  split
  · exact free_formed
  · exact hs j

/-- R80: an offer of FREE entries reserves some of them. -/
theorem offerAll_formed (time : Nat) (is : List EntryNo) (p : List RequesterNo × Vector Entry 24)
    (hfree : ∀ i ∈ is, (p.2[i]).state = .free) (hformed : ∀ i : EntryNo, (p.2[i]).formed = true) (j : EntryNo) :
    ((offerAll time is p).2[j]).formed = true := by
  induction is generalizing p with
  | nil => exact hformed j
  | cons i is ih =>
    obtain ⟨hi, his⟩ := List.forall_mem_cons.1 hfree
    obtain ⟨w, es⟩ := p
    cases w with
    | nil =>
      rw [offerAll_cons, offerEntry_empty]
      exact ih _ his hformed
    | cons r rest =>
      rw [offerAll_cons, offerEntry_head]
      refine ih _ (fun k hk => ?_) fun k => ?_
      · simp only [set_get]
        split
        · exact hi
        · exact his k hk
      · simp only [set_get]
        split
        · exact reserved_formed r time (hformed i) hi
        · exact hformed k

theorem offer_formed {s : State} {is : List EntryNo} (hs : s.EntriesFormed)
    (hfree : ∀ i ∈ is, s.dt.entries[i].state = .free) (j : EntryNo) : (s.offer is).dt.entries[j].formed = true := by
  rw [State.offer_entries]
  exact offerAll_formed _ is _ hfree hs j

theorem membersSettled_formed {s : State} (hs : s.EntriesFormed) (i : EntryNo) :
    (membersSettled s).dt.entries[i].formed = true := by
  obtain h | h := membersSettled_entry s i <;> rw [h]
  · exact linkLost_formed _ (hs i)
  · exact flightLost_formed _ (linkLost_formed _ (hs i))

theorem dismissed_formed {s : State} (r : RequesterNo) (hs : s.EntriesFormed) : (dismissed r s).EntriesFormed := by
  intro i
  simp only [dismissed, DeferralTable.releaseReservation, mapTable_get]
  split
  · exact unreserved_formed (hs i)
  · exact hs i

theorem dismissed_state (r : RequesterNo) (s : State) (i : EntryNo) :
    (dismissed r s).dt.entries[i].state = s.dt.entries[i].state := by
  rw [← Entry.unreserved_state, released_entry, Entry.unreserved_state]

theorem move_formed {s t : State} (h : Move s t) (hs : s.EntriesFormed) : t.EntriesFormed := by
  cases h with
  | aside h => rwa [State.EntriesFormed, h.dt]
  | settleQuiesce => rwa [State.EntriesFormed, State.settleQuiesce_dt]
  | offer is hfree => exact offer_formed hs hfree
  | create i e r _ _ hnew _ =>
    intro j
    show (s.create i e r).dt.entries[j].formed = true
    rw [created_get]
    split
    · exact newEntry_formed hnew
    · exact hs j
  | freshen l =>
    intro j
    show (s.freshen l).dt.entries[j].formed = true
    rw [State.freshen_get]
    exact freshened_formed l (hs j)
  | grantRead i t _ hwaiting hkind _ => exact put_formed hs (granted_read_formed t _ (hs i) hwaiting hkind)
  | launch i out _ _ hwaiting hkind => exact put_formed hs (granted_npWrite_formed (hs i) hwaiting hkind)
  | releaseHeld i _ | timeoutOrphan i t r a _ _ => exact clear_formed [i] hs
  | unreserve i _ => exact put_formed hs (unreserved_formed (hs i))
  | timeoutIssued i t r a _ hissued _ =>
    exact put_formed hs (enterHeld_formed _ (hs i) (.inr hissued) fun _ => Status.noConfusion)
  | lose => exact membersSettled_formed hs
  | withdraw p =>
    intro j
    show (s.withdraw p).dt.entries[j].formed = true
    rw [State.withdraw_get]
    split
    · exact withdrawn_formed (hs j)
    · exact hs j
  | dismiss r is _ hoffered =>
    refine offer_formed (dismissed_formed r hs) fun i hi => ?_
    rw [dismissed_state]
    exact (hoffered i hi).elim id (free_of_reserved (hs i))
  | dismissAll _ =>
    intro j
    show (allDismissed s).dt.entries[j].formed = true
    simp only [allDismissed, mapTable_get]
    exact unreserved_formed (hs j)
  | clearPath =>
    intro j
    show (Vector.replicate 24 Entry.free)[j].formed = true
    rw [Fin.getElem_fin, Vector.getElem_replicate]
    exact free_formed
  | reset =>
    intro j
    show State.reset.dt.entries[j].formed = true
    rw [ResetProofs.reset_entry]
    exact free_formed
  | tick _ =>
    intro j
    show s.tick.dt.entries[j].formed = true
    rw [State.tick_get]
    exact tick_formed (hs j)
  | _ => exact hs

theorem completed_keeps_formed {s t : State} (h : Completed s t) (hs : s.EntriesFormed) : t.EntriesFormed := by
  cases h with
  | none => exact hs
  | issued t i checkOk st data _ hissued => exact put_formed hs (completed_formed _ _ _ _ (hs i) hissued)
  | orphan t i _ _ => exact clear_formed [i] hs

/-- R127: the NP_WRITE member at the head refers to an NP_WRITE that is in flight. -/
theorem writeInFlight_of_head {s : State} {f : FlightMember} {fs : List FlightMember} {i : EntryNo}
    (hexact : s.FlightsExact) (hflights : s.mli.flights = f :: fs) (href : f.ref = .npWrite i) :
    s.dt.entries[i].writeInFlight = true :=
  (mem_npWrite_iff hexact).1 (by simp [hflights, href])

theorem acked_keeps_formed {s t : State} (h : Acked s t) (hs : s.EntriesFormed) (hexact : s.FlightsExact) :
    t.EntriesFormed := by
  cases h with
  | none | stray => exact hs
  | posted f fs r failed _ _ _ =>
    intro j
    show (s.depart r failed).dt.entries[j].formed = true
    rw [State.depart_get]
    exact accounted_formed _ _ _ (hs j)
  | issued f fs i st hflights href hissued =>
    refine put_formed hs (enterHeld_formed _ (hs i) (.inr hissued) fun hread => ?_)
    obtain ⟨hkind, -⟩ := writeInFlight_iff.1 (writeInFlight_of_head hexact hflights href)
    rw [hread] at hkind
    cases hkind
  | orphan f fs i _ _ _ => exact clear_formed [i] hs

/-- Settles O55: each change of an entry leaves the fields of its new state; an acknowledgement of an entry in ISSUED
finds an NP_WRITE there by `FlightsExact`. -/
theorem stepKeepsEntriesFormed : Obligations.StepKeepsEntriesFormed := fun _ _ hs hexact =>
  step_gives (P := State.EntriesFormed) (Q := fun s => s.EntriesFormed ∧ s.FlightsExact) (fun _ h => h.1)
    (fun _ _ => id) (fun _ _ h hq => completed_keeps_formed h hq.1)
    (fun _ _ h hq => acked_keeps_formed h hq.1 hq.2) (fun _ _ => move_formed) ⟨hs, hexact⟩

end Sys2Proof.FormedProofs

/-! # Proofs: the invariant of reservations -/

namespace Sys2Proof.ReservationProofs

open Sys2Proof Sys2Proof.Machine Sys2Proof.Claims Sys2Proof.MoveProofs Sys2Proof.CommandProofs Sys2Proof.LinkDownProofs
  Sys2Proof.HolderProofs Sys2Proof.FormedProofs

/-! ## Reservations that end -/

/-- An entry loses its reservation, or keeps it and stays FREE if it was. -/
def Loosened (e e' : Entry) : Prop :=
  e'.reservedFor = none ∨ e'.reservedFor = e.reservedFor ∧ (e.state = .free → e'.state = .free)

theorem Loosened.refl (e : Entry) : Loosened e e := .inr ⟨rfl, id⟩

theorem loosened_of_busy {e e' : Entry} (hreserved : e'.reservedFor = e.reservedFor) (hbusy : e.state ≠ .free) :
    Loosened e e' := .inr ⟨hreserved, fun h => absurd h hbusy⟩

/-- What a state says of its reservations, said of the Waiting List and the entries (R78). -/
def Exclusive (w : List RequesterNo) (es : Vector Entry 24) : Prop :=
  w.Nodup ∧ (∀ i : EntryNo, es[i].reservedFor ≠ none → es[i].state = .free) ∧
    (∀ i j : EntryNo, es[i].reservedFor ≠ none → es[i].reservedFor = es[j].reservedFor → i = j) ∧
    ∀ r ∈ w, ∀ i : EntryNo, es[i].reservedFor ≠ some r

theorem exclusive_iff (s : State) : s.ReservationsExclusive ↔ Exclusive s.waiting s.dt.entries := .rfl

/-- Requesters that leave the list and reservations that end leave the rest exclusive. -/
theorem exclusive_loosened {w w' : List RequesterNo} {es es' : Vector Entry 24} (hw : w'.Sublist w)
    (hes : ∀ i : EntryNo, Loosened es[i] es'[i]) (h : Exclusive w es) : Exclusive w' es' := by
  obtain ⟨hnodup, hfree, hunique, hlist⟩ := h
  have hkept : ∀ i : EntryNo, es'[i].reservedFor ≠ none →
      es'[i].reservedFor = es[i].reservedFor ∧ (es[i].state = .free → es'[i].state = .free) :=
    fun i hi => (hes i).resolve_left hi
  refine ⟨hnodup.sublist hw, fun i hi => ?_, fun i j hi hij => ?_, fun r hr i hi => ?_⟩
  · obtain ⟨hsame, hstays⟩ := hkept i hi
    exact hstays (hfree i (hsame ▸ hi))
  · obtain ⟨hsame, -⟩ := hkept i hi
    obtain ⟨hsame', -⟩ := hkept j (hij ▸ hi)
    exact hunique i j (hsame ▸ hi) (by rw [← hsame, hij, hsame'])
  · obtain ⟨hsame, -⟩ := hkept i (by rw [hi]; exact Option.some_ne_none r)
    exact hlist r (hw.subset hr) i (hsame ▸ hi)

/-! ## Reservations that begin -/

theorem exclusive_offerEntry {time : Nat} {w : List RequesterNo} {es : Vector Entry 24} {i : EntryNo}
    (hi : es[i].state = .free) (h : Exclusive w es) :
    Exclusive (offerEntry time (w, es) i).1 (offerEntry time (w, es) i).2 := by
  cases w with
  | nil => exact h
  | cons r rest =>
    obtain ⟨hnodup, hfree, hunique, hlist⟩ := h
    obtain ⟨hr, hrest⟩ := List.nodup_cons.1 hnodup
    obtain ⟨hnew, hold⟩ := List.forall_mem_cons.1 hlist
    rw [offerEntry_head]
    refine ⟨hrest, fun j hj => ?_, fun j k hj hjk => ?_, fun q hq j => ?_⟩
    · simp only [set_get] at hj ⊢
      split
      · exact hi
      · next hji => exact hfree j (by rwa [if_neg hji] at hj)
    · simp only [set_get] at hj hjk
      split at hjk <;> rename_i hji <;> split at hjk <;> rename_i hki
      · rw [hji, hki]
      · exact absurd hjk.symm (hnew k)
      · exact absurd hjk (hnew j)
      · rw [if_neg hji] at hj
        exact hunique j k hj hjk
    · simp only [set_get]
      split
      · rintro ⟨⟩
        exact hr hq
      · exact hold q hq j

theorem exclusive_offerAll {time : Nat} {is : List EntryNo} {p : List RequesterNo × Vector Entry 24}
    (his : ∀ i ∈ is, (p.2[i]).state = .free) (h : Exclusive p.1 p.2) :
    Exclusive (offerAll time is p).1 (offerAll time is p).2 := by
  induction is generalizing p with
  | nil => exact h
  | cons i is ih =>
    obtain ⟨hi, his⟩ := List.forall_mem_cons.1 his
    rw [offerAll_cons]
    refine ih (fun j hj => ?_) (exclusive_offerEntry hi h)
    exact (offerAll_state time [i] p j).trans (his j hj)

theorem exclusive_offer {s : State} {is : List EntryNo} (his : ∀ i ∈ is, s.dt.entries[i].state = .free)
    (h : s.ReservationsExclusive) : (s.offer is).ReservationsExclusive := by
  rw [exclusive_iff, State.offer_waiting, State.offer_entries]
  exact exclusive_offerAll his h

/-- R78: a requester joins the list when no entry is available to it, so that none is reserved for it. -/
theorem exclusive_join {s : State} {r : RequesterNo} (hnone : s.dt.available r = none)
    (h : s.ReservationsExclusive) : Exclusive (joinList r s.waiting) s.dt.entries := by
  obtain ⟨hnodup, hfree, hunique, hlist⟩ := h
  unfold joinList
  split
  · exact ⟨hnodup, hfree, hunique, hlist⟩
  · next hr =>
    refine ⟨hnodup.append (List.nodup_singleton r) ?_, hfree, hunique, fun q hq i hi => ?_⟩
    · exact List.disjoint_singleton.2 hr
    · rcases List.mem_append.1 hq with hq | hq
      · exact hlist q hq i hi
      · have hstate := hfree i (by rw [hi]; exact Option.some_ne_none q)
        rw [List.mem_singleton.1 hq] at hi
        exact absurd hi (DeferralTable.available_none.1 hnone i hstate).1

/-! ## The moves and the answers -/

theorem put_loosened {s : State} {i : EntryNo} {e : Entry} (h : Loosened s.dt.entries[i] e) (j : EntryNo) :
    Loosened s.dt.entries[j] (s.dt.put i e).entries[j] := by
  rw [put_get]
  split
  · next hj => rwa [hj]
  · exact .refl _

theorem clear_loosened (is : List EntryNo) (s : State) (j : EntryNo) :
    Loosened s.dt.entries[j] (s.dt.clear is).entries[j] := by
  rw [DeferralTable.clear_get]
  split
  · exact .inl rfl
  · exact .refl _

theorem freshened_loosened (l : DownLine) (e : Entry) : Loosened e (e.freshened l) := by
  refine .inr ⟨?_, (e.freshened_free l).mpr⟩
  obtain h | ⟨-, -, -, ⟨h, -⟩ | h⟩ | ⟨-, -, h⟩ := e.freshened_cases l <;> rw [h]
  rfl

theorem withdrawn_loosened (e : Entry) : Loosened e e.withdrawn := by
  unfold Entry.withdrawn
  cases h : e.state with
  | waiting | held => exact .inl rfl
  | issued => exact loosened_of_busy rfl (by simp [h])
  | orphaned | free => exact .refl e

theorem linkLost_loosened (time : Nat) (e : Entry) : Loosened e (e.linkLost time) := by
  unfold Entry.linkLost
  cases h : e.state with
  | waiting => exact loosened_of_busy rfl (by simp [h])
  | issued =>
    dsimp only
    split
    · exact loosened_of_busy rfl (by simp [h])
    · exact .refl e
  | orphaned =>
    dsimp only
    split
    · exact .inl rfl
    · exact .refl e
  | held | free => exact .refl e

theorem flightLost_loosened (time : Nat) (e : Entry) : Loosened e (e.flightLost time) := by
  unfold Entry.flightLost
  cases h : e.state with
  | issued => exact loosened_of_busy rfl (by simp [h])
  | orphaned => exact .inl rfl
  | waiting | held | free => exact .refl e

theorem Loosened.trans {e e' e'' : Entry} (h : Loosened e e') (h' : Loosened e' e'') : Loosened e e'' := by
  obtain h' | ⟨hsame', hfree'⟩ := h'
  · exact .inl h'
  · obtain h | ⟨hsame, hfree⟩ := h
    · exact .inl (hsame'.trans h)
    · exact .inr ⟨hsame'.trans hsame, hfree' ∘ hfree⟩

theorem membersSettled_loosened (s : State) (i : EntryNo) :
    Loosened s.dt.entries[i] (membersSettled s).dt.entries[i] := by
  obtain h | h := membersSettled_entry s i <;> rw [h]
  · exact linkLost_loosened _ _
  · exact (linkLost_loosened _ _).trans (flightLost_loosened _ _)

theorem completed_loosened {e : Entry} (checkOk : Bool) (st : Status) (data : List Byte) (time : Nat)
    (h : e.state = .issued) : Loosened e (e.completed checkOk st data time) := by
  refine loosened_of_busy ?_ (by simp [h])
  unfold Entry.completed
  split
  · split
    · split <;> rfl
    · rfl
  · rfl

theorem accounted_loosened (r : RequesterNo) (failed : Bool) (time : Nat) (e : Entry) :
    Loosened e (e.accounted r failed time) := by
  obtain h | ⟨hstate, -, n, marked, -, ⟨-, h⟩ | ⟨-, result, h⟩⟩ := e.accounted_cases r failed time <;> rw [h]
  · exact .refl e
  · exact .inr ⟨rfl, id⟩
  · exact loosened_of_busy rfl (by simp [hstate])

theorem newEntry_unreserved {s : State} {e : Entry} {r : RequesterNo} (h : NewEntry s e r) : e.reservedFor = none := by
  cases h with
  | read | npWrite | sync => rfl

theorem dismissed_loosened (r : RequesterNo) (s : State) (i : EntryNo) :
    Loosened s.dt.entries[i] (dismissed r s).dt.entries[i] := by
  simp only [dismissed, DeferralTable.releaseReservation, mapTable_get]
  split
  · exact .inl rfl
  · exact .refl _

theorem move_exclusive {s t : State} (h : Move s t) (hs : s.ReservationsExclusive) : t.ReservationsExclusive := by
  cases h with
  | aside h =>
    rw [exclusive_iff, h.waiting, h.dt]
    exact hs
  | settleQuiesce =>
    rw [exclusive_iff, State.settleQuiesce_waiting, State.settleQuiesce_dt]
    exact hs
  | offer is hfree => exact exclusive_offer hfree hs
  | join r _ hnone => exact exclusive_join hnone hs
  | create i e r _ _ hnew _ =>
    refine exclusive_loosened List.filter_sublist (fun j => ?_) hs
    rw [created_get]
    split
    · exact .inl (newEntry_unreserved hnew)
    · exact .refl _
  | freshen l =>
    refine exclusive_loosened (.refl _) (fun j => ?_) hs
    rw [State.freshen_get]
    exact freshened_loosened l _
  | grantRead i t _ hwaiting _ _ | launch i _ _ _ hwaiting _ =>
    exact exclusive_loosened (.refl _) (put_loosened (loosened_of_busy rfl (hwaiting.trans_ne (by decide)))) hs
  | releaseHeld i _ | timeoutOrphan i _ _ _ _ _ => exact exclusive_loosened (.refl _) (clear_loosened [i] s) hs
  | unreserve i _ => exact exclusive_loosened (.refl _) (put_loosened (.inl rfl)) hs
  | timeoutIssued i _ _ _ _ hissued _ =>
    exact exclusive_loosened (.refl _) (put_loosened (loosened_of_busy rfl (hissued.trans_ne (by decide)))) hs
  | lose => exact exclusive_loosened (.refl _) (membersSettled_loosened s) hs
  | withdraw p =>
    refine exclusive_loosened (.refl _) (fun j => ?_) hs
    rw [State.withdraw_get]
    split
    · exact withdrawn_loosened _
    · exact .refl _
  | dismiss r is _ hoffered =>
    have hdismissed : (dismissed r s).ReservationsExclusive :=
      exclusive_loosened List.filter_sublist (dismissed_loosened r s) hs
    refine exclusive_offer (fun i hi => ?_) hdismissed
    rw [dismissed_state]
    exact (hoffered i hi).elim id fun h => hs.2.1 i (by rw [h]; exact Option.some_ne_none r)
  | dismissAll _ =>
    refine exclusive_loosened (List.nil_sublist _) (fun j => ?_) hs
    simp only [allDismissed, mapTable_get]
    exact .inl rfl
  | clearPath =>
    refine exclusive_loosened (List.nil_sublist _) (fun j => .inl ?_) hs
    rw [Fin.getElem_fin, Vector.getElem_replicate]
    rfl
  | reset =>
    refine exclusive_loosened (List.nil_sublist _) (fun j => .inl ?_) hs
    rw [ResetProofs.reset_entry]
    rfl
  | tick _ =>
    refine exclusive_loosened (.refl _) (fun j => ?_) hs
    rw [State.tick_get]
    exact .inr ⟨rfl, id⟩
  | _ => exact hs

theorem completed_exclusive {s t : State} (h : Completed s t) (hs : s.ReservationsExclusive) :
    t.ReservationsExclusive := by
  cases h with
  | none => exact hs
  | issued t i checkOk st data _ hissued =>
    exact exclusive_loosened (.refl _) (put_loosened (completed_loosened _ _ _ _ hissued)) hs
  | orphan t i _ _ => exact exclusive_loosened (.refl _) (clear_loosened [i] s) hs

theorem acked_exclusive {s t : State} (h : Acked s t) (hs : s.ReservationsExclusive) : t.ReservationsExclusive := by
  cases h with
  | none | stray => exact hs
  | posted f fs r failed _ _ _ =>
    refine exclusive_loosened (.refl _) (fun j => ?_) hs
    rw [State.depart_get]
    exact accounted_loosened _ _ _ _
  | issued f fs i st _ _ hissued =>
    exact exclusive_loosened (.refl _) (put_loosened (loosened_of_busy rfl (hissued.trans_ne (by decide)))) hs
  | orphan f fs i _ _ _ => exact exclusive_loosened (.refl _) (clear_loosened [i] s) hs

/-- Settles O56: reservations begin at the offers alone, for requesters that leave the list, and a requester joins the
list only when it has none. -/
theorem stepKeepsReservationsExclusive : Obligations.StepKeepsReservationsExclusive :=
  fun _ _ => step_keeps (fun _ _ => id) (fun _ _ => completed_exclusive) (fun _ _ => acked_exclusive)
    fun _ _ => move_exclusive

end Sys2Proof.ReservationProofs

/-! # Proofs: the invariant of pending counts -/

namespace Sys2Proof.SyncCountProofs

open Sys2Proof Sys2Proof.Machine Sys2Proof.Claims Sys2Proof.MoveProofs Sys2Proof.CommandProofs Sys2Proof.LinkDownProofs
  Sys2Proof.HolderProofs Sys2Proof.CapacityProofs

/-! ## One entry -/

/-- R52: a WAITING SYNC. -/
def WaitingSync (e : Entry) : Prop := e.state = .waiting ∧ e.kind = some .sync

/-- A WAITING SYNC was one before, with the same count. -/
def SyncKept (e e' : Entry) : Prop := WaitingSync e' → WaitingSync e ∧ e'.pending = e.pending

theorem SyncKept.refl (e : Entry) : SyncKept e e := fun h => ⟨h, rfl⟩

theorem syncKept_of_not {e e' : Entry} (h : ¬ WaitingSync e') : SyncKept e e' := fun h' => absurd h' h

theorem not_waitingSync_of_state {e : Entry} (h : e.state ≠ .waiting) : ¬ WaitingSync e := fun h' => h h'.1

theorem not_waitingSync_of_kind {e : Entry} {k : EntryKind} (h : e.kind = some k) (hk : k ≠ .sync) :
    ¬ WaitingSync e := fun h' => hk (Option.some.inj (h.symm.trans h'.2))

theorem syncKept_of_unreserved {e e' : Entry} (h : e'.unreserved = e.unreserved) : SyncKept e e' := by
  have hstate : e'.unreserved.state = e.unreserved.state := by rw [h]
  have hkind : e'.unreserved.kind = e.unreserved.kind := by rw [h]
  have hpending : e'.unreserved.pending = e.unreserved.pending := by rw [h]
  exact fun ⟨hs, hk⟩ => ⟨⟨hstate.symm.trans hs, hkind.symm.trans hk⟩, hpending⟩

theorem freshened_syncKept (l : DownLine) (e : Entry) : SyncKept e (e.freshened l) := by
  obtain h | ⟨hkind, -, -, ⟨h, -⟩ | h⟩ | ⟨hkind, -, h⟩ := e.freshened_cases l <;> rw [h]
  · exact .refl e
  all_goals exact syncKept_of_not (not_waitingSync_of_kind (k := .read) hkind (by decide))

theorem withdrawn_syncKept (e : Entry) : SyncKept e e.withdrawn := by
  unfold Entry.withdrawn
  cases h : e.state with
  | waiting | held => exact syncKept_of_not (not_waitingSync_of_state EntryState.noConfusion)
  | issued => exact syncKept_of_not (not_waitingSync_of_state EntryState.noConfusion)
  | orphaned | free => exact .refl e

theorem membersSettled_not_waiting (s : State) (i : EntryNo) :
    (membersSettled s).dt.entries[i].state ≠ .waiting := by
  obtain h | h := membersSettled_entry s i <;> rw [h]
  · exact linkLost_not_waiting
  · exact flightLost_not_waiting linkLost_not_waiting

/-- What a departure leaves of a WAITING SYNC before its count is looked at. -/
def countedDown (r : RequesterNo) (failed : Bool) (n : Nat) (e : Entry) : Entry :=
  { e with failure := e.failure || (failed && e.requester == some r), pending := some n }

theorem accounted_of_sync {e : Entry} {n : Nat} (r : RequesterNo) (failed : Bool) (time : Nat) (hsync : WaitingSync e)
    (hn : e.pending = some (n + 1)) :
    e.accounted r failed time =
      if n = 0 then
        (countedDown r failed n e).enterHeld
          (if (countedDown r failed n e).failure then .writeFailed else .ok) time
      else countedDown r failed n e := by
  rw [Entry.accounted, if_pos (show e.state = .waiting ∧ e.kind = some .sync from hsync), hn]
  rfl

theorem accounted_of_not_sync {e : Entry} {r : RequesterNo} {failed : Bool} {time : Nat} (h : ¬ WaitingSync e) :
    e.accounted r failed time = e := if_neg h

/-- R101, R102: a departure leaves a WAITING SYNC with one record fewer to wait for, if any. -/
theorem accounted_count {e : Entry} {r : RequesterNo} {failed : Bool} {time n : Nat}
    (hcount : WaitingSync e → 1 ≤ e.pending.getD 0 ∧ e.pending.getD 0 ≤ n)
    (h : WaitingSync (e.accounted r failed time)) :
    1 ≤ (e.accounted r failed time).pending.getD 0 ∧ (e.accounted r failed time).pending.getD 0 ≤ n - 1 := by
  by_cases hsync : WaitingSync e
  · obtain ⟨hlow, hhigh⟩ := hcount hsync
    obtain ⟨m, hm⟩ : ∃ m, e.pending = some (m + 1) := by
      cases hp : e.pending with
      | none => simp [hp] at hlow
      | some k => exact ⟨k - 1, by rw [hp, Option.getD_some] at hlow; congr; omega⟩
    rw [hm, Option.getD_some] at hhigh
    rw [accounted_of_sync r failed time hsync hm] at h ⊢
    split at h
    · exact absurd h.1 EntryState.noConfusion
    · next hm0 =>
      rw [if_neg hm0, countedDown, Option.getD_some]
      omega
  · rw [accounted_of_not_sync hsync] at h
    exact absurd h hsync

/-! ## The moves and the answers -/

theorem counts_of_kept {s t : State} (hs : s.SyncCountsExact)
    (hentries : ∀ i : EntryNo, SyncKept s.dt.entries[i] t.dt.entries[i])
    (hqueue : s.pwq.length ≤ t.pwq.length) : t.SyncCountsExact := by
  intro i hstate hkind
  obtain ⟨⟨hstate', hkind'⟩, hpending⟩ := hentries i ⟨hstate, hkind⟩
  obtain ⟨hlow, hhigh⟩ := hs i hstate' hkind'
  rw [hpending]
  exact ⟨hlow, hhigh.trans hqueue⟩

theorem counts_of_none {t : State} (h : ∀ i : EntryNo, t.dt.entries[i].state ≠ .waiting) : t.SyncCountsExact :=
  fun i hstate _ => absurd hstate (h i)

theorem put_syncKept {s : State} {i : EntryNo} {e : Entry} (h : SyncKept s.dt.entries[i] e) (j : EntryNo) :
    SyncKept s.dt.entries[j] (s.dt.put i e).entries[j] := by
  rw [put_get]
  split
  · next hj => rwa [hj]
  · exact .refl _

theorem clear_syncKept (is : List EntryNo) (s : State) (j : EntryNo) :
    SyncKept s.dt.entries[j] (s.dt.clear is).entries[j] := by
  rw [DeferralTable.clear_get]
  split
  · exact syncKept_of_not (not_waitingSync_of_state (by decide))
  · exact .refl _

theorem newEntry_count {s : State} {e : Entry} {r : RequesterNo} (h : NewEntry s e r) (hsync : WaitingSync e) :
    1 ≤ e.pending.getD 0 ∧ e.pending.getD 0 ≤ s.pwq.length := by
  cases h with
  | read n w q => exact absurd hsync (not_waitingSync_of_kind (k := .read) rfl (by decide))
  | npWrite n w q => exact absurd hsync (not_waitingSync_of_kind (k := .npWrite) rfl (by decide))
  | sync r hqueue => exact ⟨List.length_pos_iff.2 hqueue, le_rfl⟩

theorem move_counts {s t : State} (h : Move s t) (hs : s.SyncCountsExact) : t.SyncCountsExact := by
  cases h with
  | aside h =>
    rw [State.SyncCountsExact, h.dt, h.pwq]
    exact hs
  | settleQuiesce =>
    rw [State.SyncCountsExact, State.settleQuiesce_dt, State.settleQuiesce_pwq]
    exact hs
  | offer is _ =>
    refine counts_of_kept hs (fun i => ?_) le_rfl
    rw [State.offer_entries]
    exact syncKept_of_unreserved (offerAll_content ..)
  | create i e r _ _ hnew _ =>
    intro j hstate hkind
    rw [created_get] at hstate hkind ⊢
    split at hstate
    · next hj =>
      rw [if_pos hj] at hkind ⊢
      exact newEntry_count (s := s) hnew ⟨hstate, hkind⟩
    · next hj =>
      rw [if_neg hj] at hkind ⊢
      exact hs j hstate hkind
  | freshen l =>
    refine counts_of_kept hs (fun i => ?_) le_rfl
    rw [State.freshen_get]
    exact freshened_syncKept l _
  | enqueue w _ _ _ => exact counts_of_kept hs (fun _ => .refl _) (by simp)
  | grantWrite out _ => exact counts_of_kept hs (fun _ => .refl _) (issueOldest_length _).ge
  | grantRead i t _ _ _ _ | launch i _ _ _ _ _ =>
    exact counts_of_kept hs (put_syncKept (syncKept_of_not (not_waitingSync_of_state EntryState.noConfusion))) le_rfl
  | releaseHeld i _ | timeoutOrphan i _ _ _ _ _ => exact counts_of_kept hs (clear_syncKept [i] s) le_rfl
  | unreserve i _ => exact counts_of_kept hs (put_syncKept (syncKept_of_unreserved rfl)) le_rfl
  | timeoutIssued i _ _ _ _ _ _ =>
    exact counts_of_kept hs (put_syncKept (syncKept_of_not (not_waitingSync_of_state EntryState.noConfusion))) le_rfl
  | lose => exact counts_of_none (membersSettled_not_waiting s)
  | withdraw p =>
    refine counts_of_kept hs (fun i => ?_) le_rfl
    rw [State.withdraw_get]
    split
    · exact withdrawn_syncKept _
    · exact .refl _
  | dismiss r is _ _ =>
    refine counts_of_kept hs (fun i => ?_) le_rfl
    rw [State.offer_entries]
    exact syncKept_of_unreserved ((offerAll_content ..).trans (released_entry s i))
  | dismissAll _ =>
    refine counts_of_kept hs (fun i => ?_) le_rfl
    simp only [allDismissed, mapTable_get]
    exact syncKept_of_unreserved rfl
  | clearPath =>
    refine counts_of_none fun i => ?_
    rw [Fin.getElem_fin, Vector.getElem_replicate]
    decide
  | reset =>
    refine counts_of_none fun i => ?_
    rw [ResetProofs.reset_entry]
    decide
  | tick _ =>
    refine counts_of_kept hs (fun i => ?_) le_rfl
    rw [State.tick_get]
    exact fun h => ⟨h, rfl⟩
  | _ => exact hs

theorem completed_kind (checkOk : Bool) (st : Status) (data : List Byte) (time : Nat) (e : Entry) :
    (e.completed checkOk st data time).kind = e.kind := by
  unfold Entry.completed
  split
  · split
    · split <;> rfl
    · rfl
  · rfl

/-- R116: a tag is BOUND to READs alone. -/
theorem read_of_bound {s : State} {t : TagNo} {i : EntryNo} (hexact : s.TagsExact)
    (htag : s.mli.tags[t] = .bound i) : s.dt.entries[i].readInFlight = true := by
  rw [← hexact.2 i, (hexact.1 t i).1 htag]
  rfl

theorem readInFlight_iff {e : Entry} :
    e.readInFlight = true ↔ e.kind = some .read ∧ (e.state = .issued ∨ e.state = .orphaned) := by
  simp [Entry.readInFlight]

theorem completed_counts {s t : State} (h : Completed s t) (hs : s.SyncCountsExact) (hexact : s.TagsExact) :
    t.SyncCountsExact := by
  cases h with
  | none => exact hs
  | issued t i checkOk st data htag _ =>
    refine counts_of_kept hs (put_syncKept (syncKept_of_not (not_waitingSync_of_kind (k := .read) ?_ (by decide))))
      le_rfl
    rw [completed_kind]
    exact (readInFlight_iff.1 (read_of_bound hexact htag)).1
  | orphan t i _ _ => exact counts_of_kept hs (clear_syncKept [i] s) le_rfl

theorem acked_counts {s t : State} (h : Acked s t) (hs : s.SyncCountsExact) : t.SyncCountsExact := by
  cases h with
  | none | stray => exact hs
  | posted f fs r failed _ _ _ =>
    intro i hstate hkind
    rw [State.depart_get] at hstate hkind ⊢
    rw [List.length_tail]
    exact accounted_count (fun hsync => hs i hsync.1 hsync.2) ⟨hstate, hkind⟩
  | issued f fs i st _ _ _ =>
    exact counts_of_kept hs (put_syncKept (syncKept_of_not (not_waitingSync_of_state EntryState.noConfusion))) le_rfl
  | orphan f fs i _ _ _ => exact counts_of_kept hs (clear_syncKept [i] s) le_rfl

/-- Settles O59: a SYNC entry is created with the occupancy, and both fall by one at each departure; a completion finds
a READ by `TagsExact`. -/
theorem stepKeepsSyncCountsExact : Obligations.StepKeepsSyncCountsExact := fun _ _ hs hexact =>
  step_gives (P := State.SyncCountsExact) (Q := fun s => s.SyncCountsExact ∧ s.TagsExact) (fun _ h => h.1)
    (fun _ _ => id) (fun _ _ h hq => completed_counts h hq.1 hq.2) (fun _ _ h hq => acked_counts h hq.1)
    (fun _ _ => move_counts) ⟨hs, hexact⟩

end Sys2Proof.SyncCountProofs

/-! # Proofs: the invariants of outstanding work

Tags and members follow the entries that are in flight, a tag and its entry together.  The head of the list is the one
thing that an acknowledgement leaves unsettled, and the expiry of R131 behind it settles that. -/

namespace Sys2Proof.OutstandingProofs

open Sys2Proof Sys2Proof.Machine Sys2Proof.Claims Sys2Proof.MoveProofs Sys2Proof.CommandProofs Sys2Proof.LinkDownProofs
  Sys2Proof.HolderProofs Sys2Proof.FormedProofs Sys2Proof.CapacityProofs Sys2Proof.SyncCountProofs

/-! ## One entry -/

/-- The entry waits for memory as before, under the same tag; one that does not wait has none. -/
structure SameFlight (e e' : Entry) : Prop where
  read : e'.readInFlight = e.readInFlight
  write : e'.writeInFlight = e.writeInFlight
  tag : e'.tag = e.tag ∨ e'.tag = none ∧ e.readInFlight = false

theorem SameFlight.refl (e : Entry) : SameFlight e e := ⟨rfl, rfl, .inl rfl⟩

/-- Memory has nothing to answer to the entry. -/
def Grounded (e : Entry) : Prop := e.readInFlight = false ∧ e.writeInFlight = false

theorem grounded_of_state {e : Entry} (h : e.state ≠ .issued) (h' : e.state ≠ .orphaned) : Grounded e := by
  simp [Grounded, Entry.readInFlight, Entry.writeInFlight, h, h']

theorem sameFlight_of_grounded {e e' : Entry} (h : Grounded e) (h' : Grounded e') (htag : e'.tag = e.tag ∨ e'.tag = none) :
    SameFlight e e' :=
  ⟨h'.1.trans h.1.symm, h'.2.trans h.2.symm, htag.imp_right fun hnone => ⟨hnone, h.1⟩⟩

theorem sameFlight_of_unreserved {e e' : Entry} (h : e'.unreserved = e.unreserved) : SameFlight e e' := by
  have hread : e'.unreserved.readInFlight = e.unreserved.readInFlight := by rw [h]
  have hwrite : e'.unreserved.writeInFlight = e.unreserved.writeInFlight := by rw [h]
  have htag : e'.unreserved.tag = e.unreserved.tag := by rw [h]
  exact ⟨hread, hwrite, .inl htag⟩

theorem freshened_sameFlight (l : DownLine) (e : Entry) : SameFlight e (e.freshened l) := by
  obtain h | ⟨-, hstate, -, ⟨h, -⟩ | h⟩ | ⟨-, -, h⟩ := e.freshened_cases l <;> rw [h]
  · exact .refl e
  · exact sameFlight_of_grounded (grounded_of_state (by simp [hstate]) (by simp [hstate]))
      (grounded_of_state EntryState.noConfusion EntryState.noConfusion) (.inl rfl)
  · exact ⟨rfl, rfl, .inl rfl⟩
  · exact ⟨rfl, rfl, .inl rfl⟩

theorem withdrawn_sameFlight (e : Entry) : SameFlight e e.withdrawn := by
  have hfree : Grounded Entry.free := grounded_of_state EntryState.noConfusion EntryState.noConfusion
  unfold Entry.withdrawn
  cases h : e.state with
  | waiting | held =>
    exact sameFlight_of_grounded (grounded_of_state (by simp [h]) (by simp [h])) hfree (.inr rfl)
  | issued => exact ⟨by simp [Entry.readInFlight, h], by simp [Entry.writeInFlight, h], .inl rfl⟩
  | orphaned | free => exact .refl e

theorem accounted_sameFlight (r : RequesterNo) (failed : Bool) (time : Nat) (e : Entry) :
    SameFlight e (e.accounted r failed time) := by
  obtain h | ⟨hstate, -, n, marked, -, ⟨-, h⟩ | ⟨-, result, h⟩⟩ := e.accounted_cases r failed time <;> rw [h]
  · exact .refl e
  · exact ⟨rfl, rfl, .inl rfl⟩
  · exact sameFlight_of_grounded (grounded_of_state (by simp [hstate]) (by simp [hstate]))
      (grounded_of_state EntryState.noConfusion EntryState.noConfusion) (.inr rfl)

theorem enterHeld_grounded (result : Status) (time : Nat) (e : Entry) : Grounded (e.enterHeld result time) :=
  grounded_of_state EntryState.noConfusion EntryState.noConfusion

theorem free_grounded : Grounded Entry.free := grounded_of_state EntryState.noConfusion EntryState.noConfusion

theorem completed_grounded (checkOk : Bool) (st : Status) (data : List Byte) (time : Nat) (e : Entry) :
    Grounded (e.completed checkOk st data time) ∧ (e.completed checkOk st data time).tag = none := by
  unfold Entry.completed
  split
  · split
    · split <;> exact ⟨grounded_of_state EntryState.noConfusion EntryState.noConfusion, rfl⟩
    · exact ⟨grounded_of_state EntryState.noConfusion EntryState.noConfusion, rfl⟩
  · exact ⟨enterHeld_grounded .., rfl⟩

theorem newEntry_grounded {s : State} {e : Entry} {r : RequesterNo} (h : NewEntry s e r) :
    Grounded e ∧ e.tag = none := by
  cases h with
  | read | npWrite | sync => exact ⟨grounded_of_state EntryState.noConfusion EntryState.noConfusion, rfl⟩

/-! ## Tags -/

/-- R116, said of the tags and the entries. -/
def TagsMatch (tags : Vector Tag 32) (es : Vector Entry 24) : Prop :=
  (∀ (t : TagNo) (i : EntryNo), tags[t] = .bound i ↔ es[i].tag = some t) ∧
    ∀ i : EntryNo, es[i].tag.isSome = es[i].readInFlight

theorem tagsExact_iff (s : State) : s.TagsExact ↔ TagsMatch s.mli.tags s.dt.entries := .rfl

section Tags

variable {tags : Vector Tag 32} {es es' : Vector Entry 24} {i : EntryNo} {t : TagNo}

theorem tagsMatch_of_same (h : TagsMatch tags es) (hes : ∀ j : EntryNo, SameFlight es[j] es'[j]) :
    TagsMatch tags es' := by
  obtain ⟨hbound, hsome⟩ := h
  have htag : ∀ j : EntryNo, es'[j].tag = es[j].tag := fun j => (hes j).tag.elim id fun ⟨hnone, hread⟩ => by
    have := hsome j
    rw [hread, Option.isSome_eq_false_iff, Option.isNone_iff_eq_none] at this
    rw [hnone, this]
  exact ⟨fun u j => by rw [htag, hbound], fun j => by rw [htag, hsome, (hes j).read]⟩

/-- An entry that is no READ in flight changes to another. -/
theorem tagsMatch_put {e : Entry} (h : TagsMatch tags es) (hold : es[i].readInFlight = false)
    (he : e.readInFlight = false) (htag : e.tag = es[i].tag ∨ e.tag = none)
    (hes : ∀ j : EntryNo, es'[j] = if j = i then e else es[j]) : TagsMatch tags es' := by
  obtain ⟨hbound, hsome⟩ := h
  have hnone : es[i].tag = none := by
    have := hsome i
    rwa [hold, Option.isSome_eq_false_iff, Option.isNone_iff_eq_none] at this
  have htag : e.tag = none := htag.elim (·.trans hnone) id
  refine ⟨fun u j => ?_, fun j => ?_⟩
  · rw [hes, hbound]
    split
    · next hj => rw [hj, hnone, htag]
    · rfl
  · rw [hes]
    split
    · rw [htag, he]
      rfl
    · exact hsome j

/-- A tag and the entry that bears it part, and the entry is grounded. -/
theorem tagsMatch_part {e : Entry} {x : Tag} (h : TagsMatch tags es) (hx : ∀ j, x ≠ .bound j)
    (htag : es[i].tag = some t) (he : Grounded e ∧ e.tag = none)
    (hes : ∀ j : EntryNo, es'[j] = if j = i then e else es[j]) : TagsMatch (tags.set t x) es' := by
  obtain ⟨hbound, hsome⟩ := h
  obtain ⟨⟨hread, -⟩, hnone⟩ := he
  refine ⟨fun u j => ?_, fun j => ?_⟩
  · rw [set_get, hes]
    split
    · next hu =>
      subst hu
      split
      · simp [hx, hnone]
      · next hj =>
        refine iff_of_false (hx j) fun hj' => hj ?_
        have := (hbound u j).2 hj'
        rw [(hbound u i).2 htag] at this
        exact (Tag.bound.inj this).symm
    · next hu =>
      rw [hbound]
      split
      · next hj =>
        subst hj
        rw [hnone, htag, Option.some_inj]
        exact iff_of_false (Ne.symm hu) (Option.some_ne_none u).symm
      · rfl
  · rw [hes]
    split
    · rw [hnone, hread]
      rfl
    · exact hsome j

/-- R117: a FREE tag and a grounded READ are joined. -/
theorem tagsMatch_join {e : Entry} (h : TagsMatch tags es) (hfree : tags[t] = .free) (hground : es[i].readInFlight = false)
    (hread : e.readInFlight = true) (htag : e.tag = some t)
    (hes : ∀ j : EntryNo, es'[j] = if j = i then e else es[j]) : TagsMatch (tags.set t (.bound i)) es' := by
  obtain ⟨hbound, hsome⟩ := h
  have hnone : es[i].tag = none := by
    have := hsome i
    rwa [hground, Option.isSome_eq_false_iff, Option.isNone_iff_eq_none] at this
  refine ⟨fun u j => ?_, fun j => ?_⟩
  · rw [set_get, hes]
    split
    · next hu =>
      subst hu
      split
      · next hj => simp [hj, htag]
      · next hj =>
        refine iff_of_false (fun h => hj (Tag.bound.inj h).symm) fun hj' => ?_
        rw [(hbound u j).2 hj'] at hfree
        cases hfree
    · next hu =>
      rw [hbound]
      split
      · next hj =>
        subst hj
        rw [hnone, htag, Option.some_inj]
        exact iff_of_false (Option.some_ne_none u).symm (Ne.symm hu)
      · rfl
  · rw [hes]
    split
    · rw [htag, hread]
      rfl
    · exact hsome j

/-- A tag that is not BOUND changes to another that is not. -/
theorem tagsMatch_setTag {x : Tag} (h : TagsMatch tags es) (hold : ∀ j, tags[t] ≠ .bound j) (hx : ∀ j, x ≠ .bound j) :
    TagsMatch (tags.set t x) es := by
  obtain ⟨hbound, hsome⟩ := h
  refine ⟨fun u j => ?_, hsome⟩
  rw [set_get]
  split
  · next hu =>
    rw [← hbound, hu]
    exact iff_of_false (hx j) (hold j)
  · exact hbound u j

theorem tagsMatch_of_grounded (htags : ∀ u : TagNo, tags[u] = .free)
    (hes : ∀ j : EntryNo, Grounded es[j] ∧ es[j].tag = none) : TagsMatch tags es :=
  ⟨fun u j => by simp [-Fin.getElem_fin, htags u, (hes j).2], fun j => by rw [(hes j).2, (hes j).1.1]; rfl⟩

end Tags

/-! ## Members -/

/-- R127, said of the list and the entries. -/
def FlightsMatch (fs : List FlightMember) (es : Vector Entry 24) : Prop :=
  ∀ i : EntryNo, fs.countP (fun f => f.ref == .npWrite i) = if es[i].writeInFlight then 1 else 0

theorem flightsExact_iff (s : State) : s.FlightsExact ↔ FlightsMatch s.mli.flights s.dt.entries := .rfl

section Flights

variable {f : FlightMember} {fs : List FlightMember} {es es' : Vector Entry 24} {i : EntryNo}

theorem flightsMatch_of_same (h : FlightsMatch fs es) (hes : ∀ j : EntryNo, SameFlight es[j] es'[j]) :
    FlightsMatch fs es' := fun j => by rw [h j, (hes j).write]

theorem flightsMatch_join_posted (h : FlightsMatch fs es) (href : f.ref = .posted) : FlightsMatch (fs ++ [f]) es := by
  intro j
  rw [List.countP_append, h j, List.countP_singleton, href]
  rfl

theorem flightsMatch_join_npWrite {e : Entry} (h : FlightsMatch fs es) (href : f.ref = .npWrite i)
    (hground : es[i].writeInFlight = false) (he : e.writeInFlight = true)
    (hes : ∀ j : EntryNo, es'[j] = if j = i then e else es[j]) : FlightsMatch (fs ++ [f]) es' := by
  intro j
  rw [List.countP_append, h j, List.countP_singleton, href, hes]
  by_cases hj : j = i
  · subst hj
    simp [-Fin.getElem_fin, hground, he]
  · simp [-Fin.getElem_fin, hj, Ne.symm hj]

theorem flightsMatch_leave_other (h : FlightsMatch (f :: fs) es) (href : ∀ j, f.ref = .npWrite j → Grounded es[j]) :
    FlightsMatch fs es := by
  intro j
  have hcount := h j
  by_cases hj : f.ref = .npWrite j
  · rw [(href j hj).2, List.countP_cons_of_pos (by simp [hj])] at hcount
    cases hcount
  · rwa [List.countP_cons_of_neg (by simp [hj])] at hcount

/-- R55, R63: a member leaves with the entry it refers to. -/
theorem flightsMatch_leave_npWrite {e : Entry} (h : FlightsMatch (f :: fs) es) (href : f.ref = .npWrite i)
    (he : Grounded e) (hes : ∀ j : EntryNo, es'[j] = if j = i then e else es[j]) : FlightsMatch fs es' := by
  intro j
  have hcount := h j
  rw [hes]
  by_cases hj : j = i
  · subst hj
    rw [List.countP_cons_of_pos (by simp [href])] at hcount
    rw [if_pos rfl, he.2]
    split at hcount
    · exact Nat.succ.inj hcount
    · cases hcount
  · rw [List.countP_cons_of_neg (by simp [href, Ne.symm hj])] at hcount
    rw [if_neg hj, hcount]

/-- An entry that is no NP_WRITE in flight changes to another. -/
theorem flightsMatch_put {e : Entry} (h : FlightsMatch fs es) (hold : es[i].writeInFlight = false)
    (he : e.writeInFlight = false) (hes : ∀ j : EntryNo, es'[j] = if j = i then e else es[j]) : FlightsMatch fs es' := by
  refine fun j => (h j).trans ?_
  rw [hes]
  by_cases hj : j = i
  · rw [if_pos hj, hj, hold, he]
  · rw [if_neg hj]

theorem flightsMatch_nil (hes : ∀ j : EntryNo, Grounded es[j]) : FlightsMatch [] es := fun j => by rw [(hes j).2]; rfl

end Flights

theorem write_of_read {e : Entry} (h : e.readInFlight = true) : e.writeInFlight = false := by
  simp [Entry.writeInFlight, (readInFlight_iff.1 h).1]

theorem read_of_write {e : Entry} (h : e.writeInFlight = true) : e.readInFlight = false := by
  simp [Entry.readInFlight, (writeInFlight_iff.1 h).1]

/-! ## The loss of the link -/

theorem linkLost_grounded {e : Entry} (time : Nat) (hwrite : e.writeInFlight = false) :
    Grounded (e.linkLost time) := by
  unfold Entry.linkLost
  cases hstate : e.state with
  | waiting => exact enterHeld_grounded ..
  | issued =>
    dsimp only
    split
    · exact enterHeld_grounded ..
    · next hkind => exact ⟨by simp [Entry.readInFlight, hkind], hwrite⟩
  | orphaned =>
    dsimp only
    split
    · exact free_grounded
    · next hkind => exact ⟨by simp [Entry.readInFlight, hkind], hwrite⟩
  | held | free => exact grounded_of_state (by simp [hstate]) (by simp [hstate])

theorem linkLost_tag {e : Entry} (time : Nat) (h : e.tag.isSome = e.readInFlight) : (e.linkLost time).tag = none := by
  have hnone : e.readInFlight = false → e.tag = none := fun hread => by
    rwa [hread, Option.isSome_eq_false_iff, Option.isNone_iff_eq_none] at h
  unfold Entry.linkLost
  cases hstate : e.state with
  | waiting => rfl
  | issued | orphaned =>
    dsimp only
    split
    · rfl
    · next hkind => exact hnone (by simp [Entry.readInFlight, hkind])
  | held | free => exact hnone (by simp [Entry.readInFlight, hstate])

theorem flightLost_grounded {e : Entry} (time : Nat) : Grounded (e.flightLost time) := by
  unfold Entry.flightLost
  cases hstate : e.state with
  | issued => exact enterHeld_grounded ..
  | orphaned => exact free_grounded
  | waiting | held | free => exact grounded_of_state (by simp [hstate]) (by simp [hstate])

theorem flightLost_tag {e : Entry} (time : Nat) (h : e.tag = none) : (e.flightLost time).tag = none := by
  unfold Entry.flightLost
  cases hstate : e.state with
  | issued | orphaned => rfl
  | waiting | held | free => exact h

/-- R141–R143: nothing is in flight behind the loss. -/
theorem membersSettled_grounded {s : State} (htags : s.TagsExact) (hflights : s.FlightsExact) (j : EntryNo) :
    Grounded (membersSettled s).dt.entries[j] ∧ (membersSettled s).dt.entries[j].tag = none := by
  have hmnt : s.loseLink.mnt = s.mnt := by rw [loseLink_frame]
  have htag := linkLost_tag s.mnt.settings.discardTime.toNat (htags.2 j)
  rw [membersSettled, settleFlights_get (loseLink_not_waiting s), loseLink_get, hmnt]
  split
  · exact ⟨flightLost_grounded _, flightLost_tag _ htag⟩
  · next hmem =>
    rw [mem_npWrite_iff hflights, Bool.not_eq_true] at hmem
    exact ⟨linkLost_grounded _ hmem, htag⟩

/-! ## The link -/

/-- What the state of the link says of the tags and the list, the head's timer aside (R125, R134). -/
def LinkBounded (m : MemoryLink) : Prop :=
  (m.state = .up → m.countTags 2 < 8) ∧
    (m.state = .down → (∀ t : TagNo, m.tags[t] = .free) ∧ m.flights = [])

theorem quarantined_le {tags tags' : Vector Tag 32}
    (h : ∀ t : TagNo, (tags'[t].code == 2) = true → (tags[t].code == 2) = true) :
    (List.finRange 32).countP (fun t => tags'[t].code == 2) ≤ (List.finRange 32).countP fun t => tags[t].code == 2 :=
  List.countP_mono_left fun t _ => h t

/-- A tag that does not become QUARANTINED adds to no count of QUARANTINED ones. -/
theorem countTags_setTag_le (m : MemoryLink) (t : TagNo) {x : Tag} (hx : x.code ≠ 2) :
    (m.setTag t x).countTags 2 ≤ m.countTags 2 := by
  refine quarantined_le fun u hu => ?_
  rw [MemoryLink.setTag_tags, set_get] at hu
  split at hu
  · exact absurd (beq_iff_eq.1 hu) hx
  · exact hu

theorem countTags_of_free {m : MemoryLink} (h : ∀ t : TagNo, m.tags[t] = .free) : m.countTags 2 = 0 :=
  List.countP_eq_zero.2 fun t _ => by
    rw [h t]
    decide

theorem linkBounded_resetting {m : MemoryLink} (h : m.state = .resetting) : LinkBounded m :=
  ⟨fun hup => by simp [h] at hup, fun hdown => by simp [h] at hdown⟩

theorem linkBounded_up {m : MemoryLink} (h : m.state = .up) (hcount : m.countTags 2 < 8) : LinkBounded m :=
  ⟨fun _ => hcount, fun hdown => by simp [h] at hdown⟩

theorem linkBounded_none {m : MemoryLink} (htags : ∀ t : TagNo, m.tags[t] = .free) (hflights : m.flights = []) :
    LinkBounded m :=
  ⟨fun _ => by rw [countTags_of_free htags]; decide, fun _ => ⟨htags, hflights⟩⟩

/-- R125: the test of the quarantine limit takes the link from UP before 8 tags are QUARANTINED. -/
theorem linkBounded_limited {m : MemoryLink} (h : m.state ≠ .down) : LinkBounded (limited m) := by
  obtain ⟨hm, hcount⟩ | ⟨-, hm⟩ := limited_cases m <;> rw [hm]
  · exact ⟨hcount, fun hdown => absurd hdown h⟩
  · exact linkBounded_resetting rfl

/-- The invariants of outstanding work but for the timer of the head. -/
def WorkExact (s : State) : Prop := s.TagsExact ∧ s.FlightsExact ∧ LinkBounded s.mli

theorem workExact_of_same {s t : State} (hs : WorkExact s)
    (hentries : ∀ i : EntryNo, SameFlight s.dt.entries[i] t.dt.entries[i]) (hmli : t.mli = s.mli) : WorkExact t := by
  obtain ⟨htags, hflights, hlink⟩ := hs
  rw [WorkExact, tagsExact_iff, flightsExact_iff, hmli]
  exact ⟨tagsMatch_of_same htags hentries, flightsMatch_of_same hflights hentries, hlink⟩

theorem clear_get_single (i j : EntryNo) (d : DeferralTable) :
    (d.clear [i]).entries[j] = if j = i then Entry.free else d.entries[j] := by
  rw [DeferralTable.clear_get]
  simp only [List.mem_singleton]

theorem put_sameFlight {s : State} {i : EntryNo} {e : Entry} (h : SameFlight s.dt.entries[i] e) (j : EntryNo) :
    SameFlight s.dt.entries[j] (s.dt.put i e).entries[j] := by
  rw [put_get]
  split
  · next hj => rwa [hj]
  · exact .refl _

theorem not_down_of_bound {s : State} {t : TagNo} {i : EntryNo} (hs : WorkExact s) (h : s.mli.tags[t] = .bound i) :
    s.mli.state ≠ .down := fun hdown => by
  rw [(hs.2.2.2 hdown).1 t] at h
  cases h

theorem not_down_of_flight {s : State} {f : FlightMember} {fs : List FlightMember} (hs : WorkExact s)
    (h : s.mli.flights = f :: fs) : s.mli.state ≠ .down := fun hdown => by
  rw [(hs.2.2.2 hdown).2] at h
  cases h

/-- A tag and its entry part: by a completion, or by a timeout behind which the quarantine limit is tested. -/
theorem workExact_part {s t : State} {i : EntryNo} {u : TagNo} {e : Entry} {x : Tag} (hs : WorkExact s)
    (htag : s.dt.entries[i].tag = some u) (hx : ∀ j, x ≠ .bound j) (he : Grounded e ∧ e.tag = none)
    (hentries : ∀ j : EntryNo, t.dt.entries[j] = if j = i then e else s.dt.entries[j])
    (hflights : t.mli.flights = s.mli.flights) (htags : t.mli.tags = s.mli.tags.set u x)
    (hlink : s.mli.state ≠ .down → LinkBounded t.mli) : WorkExact t := by
  obtain ⟨hstags, hsflights, hslink⟩ := hs
  have hread : s.dt.entries[i].readInFlight = true := by
    rw [← hstags.2 i, htag]
    rfl
  refine ⟨?_, ?_, hlink (not_down_of_bound ⟨hstags, hsflights, hslink⟩ ((hstags.1 u i).2 htag))⟩
  · rw [tagsExact_iff, htags]
    exact tagsMatch_part hstags hx htag he hentries
  · rw [flightsExact_iff, hflights]
    exact flightsMatch_put hsflights (write_of_read hread) he.1.2 hentries

theorem move_work {s t : State} (h : Move s t) (hs : WorkExact s) : WorkExact t := by
  have htags := hs.1
  have hflights := hs.2.1
  have hlink := hs.2.2
  cases h with
  | aside h => exact workExact_of_same hs (fun i => by rw [h.dt]; exact .refl _) h.mli
  | settleQuiesce =>
    exact workExact_of_same hs (fun i => by rw [State.settleQuiesce_dt]; exact .refl _) s.settleQuiesce_mli
  | offer is _ =>
    refine workExact_of_same hs (fun i => ?_) rfl
    rw [State.offer_entries]
    exact sameFlight_of_unreserved (offerAll_content ..)
  | create i e r _ havailable hnew _ =>
    have hfree := (DeferralTable.available_free havailable).1
    refine workExact_of_same hs (fun j => ?_) rfl
    rw [created_get]
    split
    · next hj =>
      rw [hj]
      obtain ⟨hground, hnone⟩ := newEntry_grounded hnew
      exact sameFlight_of_grounded (grounded_of_state (hfree.trans_ne (by decide)) (hfree.trans_ne (by decide)))
        hground (.inr hnone)
    · exact .refl _
  | freshen l =>
    refine workExact_of_same hs (fun j => ?_) rfl
    rw [State.freshen_get]
    exact freshened_sameFlight l _
  | grantWrite out h =>
    exact ⟨htags, flightsMatch_join_posted hflights rfl, hlink.1, fun hdown => by
      simp only [State.writeEligible, Bool.and_eq_true, beq_iff_eq] at h
      exact absurd (h.1.1.2.symm.trans hdown) (by decide)⟩
  | grantRead i t hup hwaiting hkind htag =>
    have hground := grounded_of_state (hwaiting.trans_ne (by decide)) (hwaiting.trans_ne (by decide))
    refine ⟨tagsMatch_join htags htag hground.1 ?_ rfl fun j => put_get i j _ s.dt,
      flightsMatch_put hflights hground.2 ?_ fun j => put_get i j _ s.dt, linkBounded_up hup ?_⟩
    · exact readInFlight_iff.2 ⟨hkind, .inl rfl⟩
    · exact write_of_read (readInFlight_iff.2 ⟨hkind, .inl rfl⟩)
    · exact (countTags_setTag_le s.mli t (x := .bound i) (show 1 ≠ 2 by decide)).trans_lt (hlink.1 hup)
  | launch i out hup _ hwaiting hkind =>
    have hground := grounded_of_state (hwaiting.trans_ne (by decide)) (hwaiting.trans_ne (by decide))
    have hwrite : Entry.writeInFlight { s.dt.entries[i] with state := .issued } = true :=
      writeInFlight_iff.2 ⟨hkind, .inl rfl⟩
    exact ⟨tagsMatch_put htags hground.1 (read_of_write hwrite) (.inl rfl) fun j => put_get i j _ s.dt,
      flightsMatch_join_npWrite hflights rfl hground.2 hwrite fun j => put_get i j _ s.dt,
      linkBounded_up hup (hlink.1 hup)⟩
  | releaseHeld i hheld =>
    refine workExact_of_same hs (fun j => ?_) rfl
    rw [clear_get_single]
    split
    · next hj =>
      rw [hj]
      exact sameFlight_of_grounded (grounded_of_state (hheld.trans_ne (by decide)) (hheld.trans_ne (by decide)))
        free_grounded (.inr rfl)
    · exact .refl _
  | unreserve i _ => exact workExact_of_same hs (put_sameFlight (sameFlight_of_unreserved rfl)) rfl
  | freeTag t hkept =>
    obtain ⟨r, a, i, hkept⟩ := hkept
    refine ⟨tagsMatch_setTag htags (fun j => by rw [hkept]; exact Tag.noConfusion) fun j => Tag.noConfusion, hflights,
      fun hup => ?_, fun hdown => ?_⟩
    · exact (countTags_setTag_le s.mli t (x := .free) (by decide)).trans_lt (hlink.1 hup)
    · rw [(hlink.2 hdown).1 t] at hkept
      cases hkept
  | timeoutIssued i t r a htag _ _ =>
    exact workExact_part hs htag (fun j => Tag.noConfusion) ⟨enterHeld_grounded .., rfl⟩
      (fun j => put_get i j _ s.dt) (limited_flights _) (limited_tags _) fun h => linkBounded_limited h
  | timeoutOrphan i t r a htag _ =>
    exact workExact_part hs htag (fun j => Tag.noConfusion) ⟨free_grounded, rfl⟩
      (fun j => clear_get_single i j s.dt) (limited_flights _) (limited_tags _) fun h => linkBounded_limited h
  | leaveUp _ => exact ⟨htags, hflights, linkBounded_resetting rfl⟩
  | comeUp _ hdown =>
    refine ⟨htags, hflights, linkBounded_up rfl ?_⟩
    have hzero := countTags_of_free (hlink.2 hdown).1
    exact lt_of_eq_of_lt hzero (by decide)
  | lose =>
    have hfree : ∀ u : TagNo, (Vector.replicate 32 Tag.free)[u] = .free := fun u => by
      rw [Fin.getElem_fin, Vector.getElem_replicate]
    have hground := membersSettled_grounded htags hflights
    exact ⟨tagsMatch_of_grounded hfree hground, flightsMatch_nil fun j => (hground j).1, linkBounded_none hfree rfl⟩
  | withdraw p =>
    refine workExact_of_same hs (fun j => ?_) rfl
    rw [State.withdraw_get]
    split
    · exact withdrawn_sameFlight _
    · exact .refl _
  | dismiss r is _ _ =>
    refine workExact_of_same hs (fun j => ?_) rfl
    rw [State.offer_entries]
    exact sameFlight_of_unreserved ((offerAll_content ..).trans (released_entry s j))
  | dismissAll _ =>
    refine workExact_of_same hs (fun j => ?_) rfl
    simp only [allDismissed, mapTable_get]
    exact sameFlight_of_unreserved rfl
  | clearPath =>
    have hfree : ∀ u : TagNo, (Vector.replicate 32 Tag.free)[u] = .free := fun u => by
      rw [Fin.getElem_fin, Vector.getElem_replicate]
    have hground : ∀ j : EntryNo, Grounded (Vector.replicate 24 Entry.free)[j] ∧
        (Vector.replicate 24 Entry.free)[j].tag = none := fun j => by
      rw [Fin.getElem_fin, Vector.getElem_replicate]
      exact ⟨free_grounded, rfl⟩
    exact ⟨tagsMatch_of_grounded hfree hground, flightsMatch_nil fun j => (hground j).1, linkBounded_none hfree rfl⟩
  | reset =>
    have hground : ∀ j : EntryNo, Grounded State.reset.dt.entries[j] ∧ State.reset.dt.entries[j].tag = none :=
      fun j => by
        rw [ResetProofs.reset_entry]
        exact ⟨free_grounded, rfl⟩
    exact ⟨tagsMatch_of_grounded ResetProofs.reset_tag hground, flightsMatch_nil fun j => (hground j).1,
      linkBounded_none ResetProofs.reset_tag rfl⟩
  | tick _ =>
    have hentries : ∀ j : EntryNo, SameFlight s.dt.entries[j] s.tick.dt.entries[j] := fun j => by
      rw [State.tick_get]
      exact ⟨rfl, rfl, .inl rfl⟩
    refine ⟨tagsMatch_of_same htags hentries, fun i => ?_, hlink.1, fun hdown => ⟨(hlink.2 hdown).1, ?_⟩⟩
    · rw [List.countP_map]
      exact flightsMatch_of_same hflights hentries i
    · rw [(hlink.2 hdown).2]
      rfl
  | _ => exact hs

theorem completed_work {s t : State} (h : Completed s t) (hs : WorkExact s) : WorkExact t := by
  have hbounded : ∀ u : TagNo, s.mli.state ≠ .down → LinkBounded (s.mli.setTag u .free) := fun u hdown =>
    ⟨fun hup => (countTags_setTag_le s.mli u (x := .free) (by decide)).trans_lt (hs.2.2.1 hup),
      fun hdown' => absurd hdown' hdown⟩
  cases h with
  | none => exact hs
  | issued t i checkOk st data htag _ =>
    exact workExact_part hs ((hs.1.1 t i).1 htag) (fun j => Tag.noConfusion) (completed_grounded ..)
      (fun j => put_get i j _ s.dt) rfl rfl (hbounded t)
  | orphan t i htag _ =>
    exact workExact_part hs ((hs.1.1 t i).1 htag) (fun j => Tag.noConfusion) ⟨free_grounded, rfl⟩
      (fun j => clear_get_single i j s.dt) rfl rfl (hbounded t)

/-- The head has left: the tags stand as they were. -/
theorem workExact_leave {s t : State} {f : FlightMember} {fs : List FlightMember} (hs : WorkExact s)
    (hhead : s.mli.flights = f :: fs) (htags : TagsMatch s.mli.tags t.dt.entries)
    (hflights : FlightsMatch fs t.dt.entries) (hmli : t.mli = { s.mli with flights := fs }) : WorkExact t := by
  rw [WorkExact, tagsExact_iff, flightsExact_iff, hmli]
  exact ⟨htags, hflights, hs.2.2.1, fun hdown => absurd hdown (not_down_of_flight hs hhead)⟩

/-- R55, R63: the NP_WRITE member at the head leaves with its entry. -/
theorem workExact_leave_npWrite {s t : State} {f : FlightMember} {fs : List FlightMember} {i : EntryNo} {e : Entry}
    (hs : WorkExact s) (hhead : s.mli.flights = f :: fs) (href : f.ref = .npWrite i) (he : Grounded e ∧ e.tag = none)
    (hentries : ∀ j : EntryNo, t.dt.entries[j] = if j = i then e else s.dt.entries[j])
    (hmli : t.mli = { s.mli with flights := fs }) : WorkExact t := by
  have hread := read_of_write (writeInFlight_of_head hs.2.1 hhead href)
  have hflights : FlightsMatch (f :: fs) s.dt.entries := hhead ▸ hs.2.1
  exact workExact_leave hs hhead (tagsMatch_put hs.1 hread he.1.1 (.inr he.2) hentries)
    (flightsMatch_leave_npWrite hflights href he.1 hentries) hmli

theorem acked_work {s t : State} (h : Acked s t) (hs : WorkExact s) : WorkExact t := by
  have hother : ∀ {f fs}, s.mli.flights = f :: fs → (∀ i, f.ref = .npWrite i → Grounded s.dt.entries[i]) →
      FlightsMatch fs s.dt.entries := fun hhead href => by
    have hflights := hs.2.1
    rw [flightsExact_iff, hhead] at hflights
    exact flightsMatch_leave_other hflights href
  cases h with
  | none _ => exact hs
  | stray f fs hhead hstray =>
    refine workExact_leave hs hhead hs.1 (hother hhead fun i href => ?_) rfl
    rw [href] at hstray
    exact grounded_of_state hstray.1 hstray.2
  | posted f fs r failed hhead href _ =>
    have hentries : ∀ j : EntryNo, SameFlight s.dt.entries[j] (s.depart r failed).dt.entries[j] := fun j => by
      rw [State.depart_get]
      exact accounted_sameFlight _ _ _ _
    refine workExact_leave hs hhead (tagsMatch_of_same hs.1 hentries)
      (flightsMatch_of_same (hother hhead fun i hi => ?_) hentries) rfl
    rw [href] at hi
    cases hi
  | issued f fs i st hhead href _ =>
    exact workExact_leave_npWrite hs hhead href ⟨enterHeld_grounded .., rfl⟩ (fun j => put_get i j _ s.dt) rfl
  | orphan f fs i hhead href _ =>
    exact workExact_leave_npWrite hs hhead href ⟨free_grounded, rfl⟩ (fun j => clear_get_single i j s.dt) rfl

/-! ## The head's timer -/

/-- The head has not outlived its acknowledgement timer (R130, R131, R188). -/
def HeadTimely (m : MemoryLink) : Prop := m.state = .up → ∀ f ∈ m.flights.head?, f.elapsed ≤ f.ackTimeout

theorem headTimely_of_not_up {m : MemoryLink} (h : m.state ≠ .up) : HeadTimely m := fun hup => absurd hup h

theorem headTimely_limited {m : MemoryLink} (h : HeadTimely m) : HeadTimely (limited m) := by
  obtain ⟨hm, -⟩ | ⟨-, hm⟩ := limited_cases m <;> rw [hm]
  · exact h
  · exact headTimely_of_not_up LinkState.noConfusion

/-- R130: a member that joins an empty list has not waited yet. -/
theorem headTimely_join {m m' : MemoryLink} {f : FlightMember} (h : HeadTimely m) (hstate : m'.state = m.state)
    (hflights : m'.flights = m.flights ++ [f]) (hnew : f.elapsed = 0) : HeadTimely m' := by
  intro hup g hg
  rw [hflights, List.head?_append] at hg
  cases hhead : m.flights.head? with
  | none =>
    simp only [hhead, Option.none_or, List.head?_cons, Option.mem_def, Option.some_inj] at hg
    rw [← hg, hnew]
    exact Nat.zero_le _
  | some x =>
    rw [hhead, Option.some_or] at hg
    exact h (hstate ▸ hup) g (hhead ▸ hg)

theorem move_head {s t : State} (h : Move s t) (hlink : LinkBounded s.mli) (hs : HeadTimely s.mli) :
    HeadTimely t.mli := by
  cases h with
  | aside h => rwa [h.mli]
  | settleQuiesce => rwa [State.settleQuiesce_mli]
  | grantWrite _ _ | launch _ _ _ _ _ _ => exact headTimely_join hs rfl rfl rfl
  | timeoutIssued _ _ _ _ _ _ _ | timeoutOrphan _ _ _ _ _ _ => exact headTimely_limited hs
  | leaveUp _ | lose | reset => exact headTimely_of_not_up LinkState.noConfusion
  | comeUp _ hdown =>
    intro _ f hf
    rw [(hlink.2 hdown).2] at hf
    cases hf
  | clearPath =>
    intro _ f hf
    cases hf
  | tick hdue =>
    intro hup f hf
    rw [List.head?_map, Option.mem_def, Option.map_eq_some_iff] at hf
    obtain ⟨g, hg, rfl⟩ := hf
    exact hdue hup g hg
  | _ => exact hs

theorem completed_head {s t : State} (h : Completed s t) (hs : HeadTimely s.mli) : HeadTimely t.mli := by
  cases h with
  | none | issued | orphan => exact hs

theorem moves_head {s t : State} (h : Moves s t) (hwork : WorkExact s) (hs : HeadTimely s.mli) :
    HeadTimely t.mli :=
  (moves_keep (P := fun s => WorkExact s ∧ HeadTimely s.mli)
    (fun _ _ h hs => ⟨move_work h hs.1, move_head h hs.1.2.2 hs.2⟩) h ⟨hwork, hs⟩).2

/-- R131: behind an acknowledgement the timer of the head is tested. -/
theorem ackTimeout_head (s : State) : HeadTimely s.ackTimeout.mli := by
  intro hup f hf
  obtain ⟨hsame, hhead⟩ := s.ackTimeout_settled hup
  rw [hsame] at hf
  exact (hhead f hf).le

theorem exec_head {c : Instr} {s t : State} (h : exec c s = .next t) (hwork : WorkExact s) (hs : HeadTimely s.mli) :
    HeadTimely t.mli := by
  obtain ⟨u, hu, hmoves⟩ | ⟨u, v, -, -, rfl⟩ := exec_cases h
  · exact moves_head hmoves (completed_work hu hwork) (completed_head hu hs)
  · exact ackTimeout_head v

theorem linkSettled_iff (s : State) : s.LinkSettled ↔ LinkBounded s.mli ∧ HeadTimely s.mli :=
  ⟨fun ⟨hup, hdown⟩ => ⟨⟨fun h => (hup h).1, hdown⟩, fun h => (hup h).2⟩,
    fun ⟨⟨hcount, hdown⟩, hhead⟩ => ⟨fun h => ⟨hcount h, hhead h⟩, hdown⟩⟩

/-- Settles O58: tags and members change with their entries, and the timer of the head is tested by each tick and behind
each acknowledgement. -/
theorem stepKeepsOutstandingWorkExact : Obligations.StepKeepsOutstandingWorkExact := by
  intro s t htags hflights hlink h
  obtain ⟨hbounded, hhead⟩ := (linkSettled_iff s).1 hlink
  have hwork : WorkExact s := ⟨htags, hflights, hbounded⟩
  obtain ⟨htags', hflights', hbounded'⟩ := step_keeps (P := WorkExact) (fun _ _ => id) (fun _ _ => completed_work)
    (fun _ _ => acked_work) (fun _ _ => move_work) hwork h
  refine ⟨htags', hflights', (linkSettled_iff t).2 ⟨hbounded', ?_⟩⟩
  obtain rfl | ⟨c, rest, h⟩ := step_cases h
  · exact hhead
  · exact exec_head h hwork hhead

end Sys2Proof.OutstandingProofs

/-! # Proofs: the invariant of a quiesced or loading part -/

namespace Sys2Proof.IdleProofs

open Sys2Proof Sys2Proof.Machine Sys2Proof.Claims Sys2Proof.MoveProofs Sys2Proof.CommandProofs Sys2Proof.LinkDownProofs
  Sys2Proof.HolderProofs Sys2Proof.CapacityProofs Sys2Proof.SyncCountProofs Sys2Proof.OutstandingProofs

/-! ## Drained parts -/

/-- Every entry is FREE and the queue is empty. -/
def Idle (s : State) : Prop := (∀ i : EntryNo, s.dt.entries[i].state = .free) ∧ s.pwq = []

/-- What a QUIESCED part and a LOADING part keep, whatever the tags and the list hold. -/
structure Drained (s : State) : Prop where
  quiesced : s.mnt.opState = .quiesced → Idle s
  loading : s.mnt.opState = .loading → Idle s ∧ s.waiting = []
  powerOn : s.powerOn = true → s.mnt.opState = .loading ∧ s.mli.state = .down

theorem thinned_allFree {s t : State} (h : Thinned s t) (hs : ∀ i : EntryNo, s.dt.entries[i].state = .free)
    (i : EntryNo) : t.dt.entries[i].state = .free := by
  obtain ⟨q, -, hfree⟩ := h.age
  exact by_contra fun hi => ((hfree i).1 hi).1 (hs i)

/-- A part that is not ACTIVE creates no entry and takes no write. -/
theorem move_idle {s t : State} (h : Move s t) (hop : s.mnt.opState ≠ .active) (hs : Idle s) : Idle t := by
  obtain ⟨hfree, hqueue⟩ := hs
  have hfree' : ∀ i : EntryNo, t.dt.entries[i].state = .free := by
    obtain hthin | ⟨hactive, -⟩ := move_thinned h
    · exact thinned_allFree hthin hfree
    · exact absurd hactive hop
  refine ⟨hfree', ?_⟩
  cases h with
  | aside h => rwa [h.pwq]
  | settleQuiesce => rwa [State.settleQuiesce_pwq]
  | enqueue w hactive _ _ => exact absurd hactive hop
  | grantWrite out _ => exact congrArg issueOldest hqueue
  | lose => exact (membersSettled_pwq_eq_drop s).trans (by rw [hqueue, List.drop_nil])
  | clearPath | reset => rfl
  | _ => exact hqueue

theorem move_waiting {s t : State} (h : Move s t) (hop : s.mnt.opState ≠ .active) (hs : s.waiting = []) :
    t.waiting = [] := by
  cases h with
  | aside h => rwa [h.waiting]
  | settleQuiesce => rwa [State.settleQuiesce_waiting]
  | offer is _ =>
    show (s.offer is).waiting = []
    rw [State.offer_waiting, hs, offerAll_empty]
  | join r hactive _ | create i e r hactive _ _ _ => exact absurd hactive hop
  | dismiss r is _ _ =>
    have hdismissed : (dismissed r s).waiting = [] := by rw [dismissed, hs, List.filter_nil]
    show ((dismissed r s).offer is).waiting = []
    rw [State.offer_waiting, hdismissed, offerAll_empty]
  | dismissAll _ | clearPath | reset => rfl
  | _ => exact hs

/-- The operating state as a move leaves it: as it was, or as the power-on reset, a command and the change to QUIESCED
set it. -/
theorem move_opState {s t : State} (h : Move s t) :
    t.mnt.opState = s.mnt.opState ∨ t.mnt.opState = .active ∨ t.mnt.opState = .quiescing ∨
      (s.mnt.opState = .quiescing ∧ t.mnt.opState = .quiesced ∧ Idle t) ∨
      (t.mnt.opState = .loading ∧ Idle t ∧ t.waiting = []) := by
  cases h with
  | aside h => exact .inl h.opState
  | enter o ho _ =>
    obtain rfl | rfl := ho
    · exact .inr (.inl rfl)
    · exact .inr (.inr (.inl rfl))
  | settleQuiesce =>
    obtain ⟨hop, hfree, hqueue, h⟩ | ⟨-, h⟩ := s.settleQuiesce_cases <;> rw [h]
    · exact .inr (.inr (.inr (.inl ⟨hop, rfl, State.allFree_iff.1 hfree, hqueue⟩)))
    · exact .inl rfl
  | reset =>
    refine .inr (.inr (.inr (.inr ⟨rfl, ⟨fun i => ?_, rfl⟩, rfl⟩)))
    rw [ResetProofs.reset_entry]
    rfl
  | _ => exact .inl rfl

/-- R184: while the input of the power-on reset is asserted, the part is LOADING and its link DOWN. -/
theorem move_powerOn {s t : State} (h : Move s t)
    (hs : s.powerOn = true → s.mnt.opState = .loading ∧ s.mli.state = .down)
    (hon : t.powerOn = true) : t.mnt.opState = .loading ∧ t.mli.state = .down := by
  have hup : s.powerOn = true → s.mli.state ≠ .up := fun hon hup =>
    absurd (hup.symm.trans (hs hon).2) (by decide)
  cases h with
  | aside h => rw [h.opState, h.mli]; exact hs (h.powerOn hon)
  | enter o _ hoff | comeUp hoff _ => exact absurd (hoff.symm.trans hon) Bool.false_ne_true
  | settleQuiesce =>
    rw [State.settleQuiesce_powerOn] at hon
    obtain ⟨hloading, hdown⟩ := hs hon
    obtain ⟨hop, -⟩ | ⟨-, h⟩ := s.settleQuiesce_cases
    · simp [hloading] at hop
    · rw [h]
      exact ⟨hloading, hdown⟩
  | timeoutIssued i t r a _ _ _ | timeoutOrphan i t r a _ _ =>
    refine ⟨(hs hon).1, ?_⟩
    obtain ⟨h, -⟩ | ⟨h, -⟩ := limited_cases (s.mli.setTag t (.quarantined r a i))
    · exact (congrArg MemoryLink.state h).trans (hs hon).2
    · exact absurd h (hup hon)
  | leaveUp h => exact absurd h (hup hon)
  | lose => exact ⟨(hs hon).1, rfl⟩
  | clearPath =>
    refine ⟨(hs hon).1, ?_⟩
    simp only [pathCleared, if_neg (hup hon)]
    exact (hs hon).2
  | reset => exact ⟨rfl, rfl⟩
  | _ => exact hs hon

theorem move_drained {s t : State} (h : Move s t) (hs : Drained s) : Drained t := by
  have hop := move_opState h
  refine ⟨fun hquiesced => ?_, fun hloading => ?_, move_powerOn h hs.powerOn⟩
  · rw [hquiesced] at hop
    obtain hsame | hop | hop | ⟨-, -, hidle⟩ | ⟨hop, -⟩ := hop
    · exact move_idle h (by simp [← hsame]) (hs.quiesced hsame.symm)
    · cases hop
    · cases hop
    · exact hidle
    · cases hop
  · rw [hloading] at hop
    obtain hsame | hop | hop | ⟨-, hop, -⟩ | ⟨-, hidle⟩ := hop
    · obtain ⟨hidle, hwaiting⟩ := hs.loading hsame.symm
      exact ⟨move_idle h (by simp [← hsame]) hidle, move_waiting h (by simp [← hsame]) hwaiting⟩
    · cases hop
    · cases hop
    · cases hop
    · exact hidle

theorem drained_of_thinned {s t : State} (hs : Drained s) (h : Thinned s t) (hop : t.mnt.opState = s.mnt.opState)
    (hqueue : s.pwq = [] → t.pwq = []) (hwaiting : t.waiting = s.waiting) (hon : t.powerOn = s.powerOn)
    (hlink : t.mli.state = s.mli.state) : Drained t := by
  have hidle : Idle s → Idle t := fun ⟨hfree, hempty⟩ => ⟨thinned_allFree h hfree, hqueue hempty⟩
  refine ⟨fun h => hidle (hs.quiesced (hop ▸ h)), fun h => ?_, fun h => ?_⟩
  · obtain ⟨hs, hw⟩ := hs.loading (hop ▸ h)
    exact ⟨hidle hs, hwaiting.trans hw⟩
  · rw [hop, hlink]
    exact hs.powerOn (hon ▸ h)

theorem completed_drained {s t : State} (h : Completed s t) (hs : Drained s) : Drained t := by
  have hthin := completed_thinned h
  cases h with
  | none => exact hs
  | issued | orphan => exact drained_of_thinned hs hthin rfl id rfl rfl rfl

theorem acked_drained {s t : State} (h : Acked s t) (hs : Drained s) : Drained t := by
  have hthin := acked_thinned h
  cases h with
  | none => exact hs
  | posted f fs r failed _ _ hqueue => exact drained_of_thinned hs hthin rfl (fun h => absurd h hqueue) rfl rfl rfl
  | stray | issued | orphan => exact drained_of_thinned hs hthin rfl id rfl rfl rfl

/-! ## Nothing outstanding -/

/-- R88, R127: an idle part has no member in its list. -/
theorem flights_of_idle {s : State} (hs : Idle s) (hqueue : s.QueueOrdered) (hexact : s.FlightsExact) :
    s.mli.flights = [] := by
  obtain ⟨hfree, hempty⟩ := hs
  refine List.eq_nil_iff_forall_not_mem.2 fun f hf => ?_
  cases href : f.ref with
  | posted =>
    have hcount := hqueue.2
    rw [hempty] at hcount
    exact List.countP_eq_zero.1 hcount.symm f hf (by simp [href])
  | npWrite i =>
    have hwrite := (mem_npWrite_iff hexact (i := i)).1 (href ▸ List.mem_map_of_mem hf)
    rw [(grounded_of_state ((hfree i).trans_ne (by decide)) ((hfree i).trans_ne (by decide))).2] at hwrite
    cases hwrite

/-- R116: an idle part has no tag BOUND. -/
theorem unbound_of_idle {s : State} (hs : Idle s) (hexact : s.TagsExact) : s.mli.countTags 1 = 0 := by
  refine List.countP_eq_zero.2 fun t _ => ?_
  cases htag : s.mli.tags[t] with
  | free => decide
  | quarantined r a i => exact fun h => by cases h
  | bound i =>
    have hread := read_of_bound hexact htag
    rw [(grounded_of_state ((hs.1 i).trans_ne (by decide)) ((hs.1 i).trans_ne (by decide))).1] at hread
    cases hread

theorem drained_of_inv {s : State} (hquiesced : s.QuiescedIdle) (hloading : s.LoadingIdle) : Drained s where
  quiesced h := ⟨State.allFree_iff.1 (hquiesced h).1, (hquiesced h).2.1⟩
  loading h := ⟨⟨State.allFree_iff.1 (hloading.1 h).1, (hloading.1 h).2.1⟩, (hloading.1 h).2.2⟩
  powerOn := hloading.2

/-- Settles O60: a part drained of entries and records has, by the invariants of the queue, the tags and the members,
nothing outstanding. -/
theorem stepKeepsQuiescedIdle : Obligations.StepKeepsQuiescedIdle := by
  intro s t hs h
  obtain ⟨-, -, -, -, -, -, -, -, -, hqueue, hflights, htags, hlink, -, hloading, hquiesced⟩ := hs
  obtain ⟨hdrained, hdrained', hon⟩ := step_keeps (P := Drained)
    (fun _ _ hs => ⟨hs.quiesced, hs.loading, hs.powerOn⟩) (fun _ _ => completed_drained) (fun _ _ => acked_drained)
    (fun _ _ => move_drained) (drained_of_inv hquiesced hloading) h
  have hqueue' := stepKeepsQueueOrdered s t hqueue h
  obtain ⟨htags', hflights', -⟩ := stepKeepsOutstandingWorkExact s t htags hflights hlink h
  refine ⟨fun hop => ?_, fun hop => ?_, hon⟩
  · have hidle := hdrained hop
    exact ⟨State.allFree_iff.2 hidle.1, hidle.2, flights_of_idle hidle hqueue' hflights', unbound_of_idle hidle htags'⟩
  · obtain ⟨⟨hfree, hempty⟩, hwaiting⟩ := hdrained' hop
    exact ⟨State.allFree_iff.2 hfree, hempty, hwaiting⟩

end Sys2Proof.IdleProofs

/-! # Proofs: requests at the windows and at the Deferral Table -/

namespace Sys2Proof.RequestProofs

open Sys2Proof Sys2Proof.Machine Sys2Proof.Claims Sys2Proof.UpstreamProofs Sys2Proof.WindowCommitProofs
  Sys2Proof.RepeatProofs Sys2Proof.UnawaitedAnswerProofs

/-! ## The claiming window -/

theorem decisionOn_of_masked {q : UpRequest} {s : State} {n : WindowNo} (hclaim : ClaimedBy n q s)
    (hmask : ¬ InMask s.wt.windows[n] q.requester) :
    decisionOn q s = .answer (.fault .denied) (some (decodeRecord .denied (some n) q s)) := by
  rw [← admits_iff_inMask] at hmask
  rw [decisionOn_of_claimedBy hclaim, claimedDecision, if_neg hmask]

/-- R14–R17: a WRITE that the mask admits is decided by the window's write mode. -/
theorem decisionOn_of_write {q : UpRequest} {s : State} {n : WindowNo} (hclaim : ClaimedBy n q s)
    (hmask : InMask s.wt.windows[n] q.requester) (hwrite : q.command = .write) :
    decisionOn q s = writeDecision (dataCheckPasses q) n q s := by
  rw [← admits_iff_inMask] at hmask
  rw [decisionOn_of_claimedBy hclaim, claimedDecision, if_pos hmask, if_pos hwrite]

theorem writeDecision_readOnly {q : UpRequest} {s : State} {n : WindowNo} (dataOk : Bool)
    (hmode : s.wt.windows[n].writeMode = .readOnly) :
    writeDecision dataOk n q s = .answer (.fault .denied) (some (decodeRecord .denied (some n) q s)) := by
  simp only [writeDecision, hmode]

theorem writeDecision_badData {q : UpRequest} {s : State} {n : WindowNo}
    (hmode : s.wt.windows[n].writeMode = .posted ∨ s.wt.windows[n].writeMode = .nonposted) :
    writeDecision false n q s = .answer (.fault .check) (some (decodeRecord .reqCheck (some n) q s)) := by
  rcases hmode with hmode | hmode <;> simp only [writeDecision, hmode, Bool.false_eq_true, if_false]

theorem writeDecision_unnamed {q : UpRequest} {s : State} {n : WindowNo} (dataOk : Bool)
    (hmode : s.wt.windows[n].writeMode = .unnamed) : writeDecision dataOk n q s = .unnamedWriteMode := by
  simp only [writeDecision, hmode]

/-- Settles O4: the mask, the write mode and the data check decide one after the other. -/
theorem claimingWindowRefuses : Obligations.ClaimingWindowRefuses := by
  intro q s n hclaim
  refine ⟨fun hmask => ?_, fun hmask hwrite hmode => ?_, fun hmask hwrite hmode hdata => ?_,
    fun hmask hwrite hmode => ?_⟩
  · exact exec_of_answer (decisionOn_of_masked hclaim hmask)
  · exact exec_of_answer ((decisionOn_of_write hclaim hmask hwrite).trans (writeDecision_readOnly _ hmode))
  · have hdata : dataCheckPasses q = false := Bool.eq_false_iff.2 (mt dataCheckPasses_iff.1 hdata)
    have hdecision := decisionOn_of_write hclaim hmask hwrite
    rw [hdata] at hdecision
    exact exec_of_answer (hdecision.trans (writeDecision_badData hmode))
  · have hdecision := (decisionOn_of_write hclaim hmask hwrite).trans (writeDecision_unnamed _ hmode)
    unfold decisionOn at hdecision
    rw [exec_upstreamRequest, State.request, hdecision]

/-- An aligned block of 2^k addresses does not pass a limit aligned to it. -/
theorem add_two_pow_le {k limit base : Nat} (hk : k ≤ limit) (hdvd : 2 ^ k ∣ base) (hbase : base < 2 ^ limit) :
    base + 2 ^ k ≤ 2 ^ limit := by
  obtain ⟨m, rfl⟩ := hdvd
  obtain ⟨j, rfl⟩ := Nat.exists_eq_add_of_le hk
  rw [pow_add] at hbase ⊢
  calc 2 ^ k * m + 2 ^ k = 2 ^ k * (m + 1) := by ring
    _ ≤ 2 ^ k * 2 ^ j := Nat.mul_le_mul_left _ (Nat.lt_of_mul_lt_mul_left hbase)

/-- Settles O5: the target base is aligned to the window's size, so that base and offset add without a carry, and the
line offset lies within the low k bits. -/
theorem translationStaysInWindow : Obligations.TranslationStaysInWindow := by
  rintro w a ⟨hlow, hhigh, hup, htarget, -⟩ ⟨-, hbase, hend⟩
  have hoffset : a.toNat - w.upBase.toNat < 2 ^ w.k.toNat := by omega
  have hfits := add_two_pow_le (hhigh.trans (by decide : 40 ≤ 44)) htarget w.target.isLt
  have hsum : (w.translate a).toNat = w.target.toNat + (a.toNat - w.upBase.toNat) := by
    rw [Window.translate, BitVec.toNat_ofNat, Nat.mod_eq_of_lt (by omega)]
  have hkept : (w.translate a).toNat % 2 ^ w.k.toNat = a.toNat % 2 ^ w.k.toNat := by
    obtain ⟨m, hm⟩ := htarget
    obtain ⟨n, hn⟩ := hup
    have ha : a.toNat = a.toNat - w.upBase.toNat + 2 ^ w.k.toNat * n := by omega
    rw [hsum, hm, Nat.mul_add_mod]
    conv_rhs => rw [ha, Nat.add_mul_mod_self_left]
  have hline : 64 ∣ 2 ^ w.k.toNat := pow_dvd_pow 2 ((by decide : 6 ≤ 12).trans hlow)
  refine ⟨hsum, by omega, hkept, ?_⟩
  rw [← Nat.mod_mod_of_dvd _ hline, hkept, Nat.mod_mod_of_dvd _ hline]

/-! ## Delivery -/

/-- R47: the bytes of the request's own offset and length. -/
theorem deliveredBytes_eq (e : Entry) (q : UpRequest) :
    deliveredBytes e q =
      ((e.data.getD []).drop (q.address.toNat % 64 - (e.span.map fun sp => sp.offset.toNat).getD 0)).take q.length := by
  rw [deliveredBytes, upOffset_toNat]

theorem matched_of_held {s : State} {i : EntryNo} (q : UpRequest) (h : s.dt.entries[i].state = .held) :
    s.matched i q = (s.freeEntry i).answer (deliveryResponse s.dt.entries[i] q) := if_pos h

/-- Freeing an entry touches the tables, the Waiting List and the Maintenance Port alone. -/
theorem freeEntry_frame (i : EntryNo) (s : State) :
    s.freeEntry i =
      { s with
        waiting := (s.freeEntry i).waiting, rqt := (s.freeEntry i).rqt, dt := (s.freeEntry i).dt
        mnt := (s.freeEntry i).mnt } := by
  have h := s.freeEntry_eq i
  generalize s.freeEntry i = u at h ⊢
  rw [h]

/-- Settles O9: the search finds the entry, which is freed as its result is delivered. -/
theorem heldEntryIsDelivered : Obligations.HeldEntryIsDelivered := by
  intro q s e i st hover hkeys hheld hkey hresult
  have hlive : s.dt.entries[i].live = true := live_iff_states.2 (.inr (.inr hheld))
  have hfreed : EntryFreed i id s (s.freeEntry i) := entryFreed_freeEntry (hheld.trans_ne (by decide))
  have hout : (s.freeEntry i).out = s.out := by rw [freeEntry_frame]
  refine ⟨_, (exec_of_match hover hkeys hlive hkey).trans (congrArg _ (matched_of_held q hheld)), hfreed, ?_, ?_⟩
  · rw [State.answer_out, hout, deliveryResponse, hresult, deliveredBytes_eq]
    cases st <;> rfl
  · have hframe := freeEntry_frame i s
    generalize s.freeEntry i = u at hframe ⊢
    rw [hframe]
    rfl

/-! ## A request without a match -/

theorem matching_none_of_noMatch {s : State} {e : Entry} {k : MatchKey} (hnone : NoMatch s e) (hkey : e.key = some k) :
    s.dt.matching k = none :=
  DeferralTable.matching_none.2 fun i hlive => hkey ▸ hnone i (live_iff_states.1 hlive)

/-- R48: a READ or an NP_WRITE without a match is a miss. -/
theorem exec_of_miss {q : UpRequest} {s : State} {e : Entry} (hover : HandedOver q s e) (hcmd : q.command ≠ .sync)
    (hnone : NoMatch s e) : exec (.upstreamRequest q) s = .next (s.miss e q.requester) := by
  obtain ⟨-, hsync, -⟩ | ⟨n, hclaim, hmask, hreq⟩ := hover
  · exact absurd hsync hcmd
  · obtain ⟨k, hk⟩ := key_of_requested hreq
    have hdecision := decisionOn_of_requested hclaim hmask hreq
    unfold decisionOn at hdecision
    simp only [exec_upstreamRequest, State.request, hdecision, State.handOver, hk, Option.bind_some,
      matching_none_of_noMatch hnone hk]

/-- R52: a SYNC without a match is answered at once, or is a miss. -/
theorem exec_of_sync {q : UpRequest} {s : State} {e : Entry} (hover : HandedOver q s e) (hcmd : q.command = .sync)
    (hnone : NoMatch s e) :
    exec (.upstreamRequest q) s =
      .next (if s.pwq = [] then s.answer .done else s.miss (syncEntry q.requester s.pwq.length) q.requester) := by
  obtain ⟨hdec, -, rfl⟩ | ⟨n, ⟨-, hrw, -⟩, -⟩ := hover
  · have hdecision := decisionOn_of_sync hdec hcmd
    unfold decisionOn at hdecision
    simp only [exec_upstreamRequest, State.request, hdecision, State.syncRequest, matching_none_of_noMatch hnone rfl]
    rfl
  · rw [hcmd] at hrw
    exact absurd hrw (by decide)

/-! ## The tests of a miss -/

theorem available_eq_none_of_noneAvailable {s : State} {r : RequesterNo} (h : NoneAvailable s r) :
    s.dt.available r = none :=
  DeferralTable.available_none.2 fun i hfree => ⟨fun hr => (h i).1 ⟨hfree, hr⟩, fun hn => (h i).2 ⟨hfree, hn⟩⟩

/-- R49: the entry that a creation takes. -/
theorem available_eq_some_of_takes {s : State} {r : RequesterNo} {i : EntryNo} (h : Takes s r i) :
    s.dt.available r = some i := by
  unfold DeferralTable.available
  obtain hreserved | ⟨hnone, hunreserved⟩ := h
  · rw [DeferralTable.reservedEntry_eq_some.2 hreserved]
  · have hnone : s.dt.reservedEntry r = none := by
      cases hfound : s.dt.reservedEntry r with
      | none => rfl
      | some j => exact absurd (DeferralTable.reservedEntry_eq_some.1 hfound).1 (hnone j)
    rw [hnone]
    exact DeferralTable.unreservedEntry_eq_some.2 hunreserved

section Miss

variable {s : State} (e : Entry) {r : RequesterNo}

theorem miss_linkDown (hdown : s.mli.state ≠ .up) : s.miss e r = s.answer (.fault .linkDown) := if_pos hdown

theorem miss_turnedAway (hup : s.mli.state = .up) (hop : s.mnt.opState = .quiescing ∨ s.mnt.opState = .quiesced) :
    s.miss e r = s.answer .retry := by
  rw [State.miss, if_neg (not_not.2 hup), if_pos (turnsAway_iff.2 hop)]

theorem miss_taken (hup : s.mli.state = .up) (hactive : s.mnt.opState = .active) : s.miss e r = s.seekEntry e r := by
  rw [State.miss, if_neg (not_not.2 hup), if_neg (by simp [turnsAway_iff, hactive])]

theorem miss_overQuota (hup : s.mli.state = .up) (hactive : s.mnt.opState = .active)
    (hquota : s.rqt.requesters[r].quota ≤ s.rqt.requesters[r].held) :
    s.miss e r = (s.countRefusal r).answer .retry := by
  simp only [miss_taken e hup hactive, State.seekEntry, State.admission, if_pos hquota]

theorem miss_noEntry (hup : s.mli.state = .up) (hactive : s.mnt.opState = .active)
    (hquota : s.rqt.requesters[r].held < s.rqt.requesters[r].quota) (hnone : NoneAvailable s r) :
    s.miss e r = State.answer .retry { s.countRefusal r with waiting := joinList r s.waiting } := by
  simp only [miss_taken e hup hactive, State.seekEntry, State.admission, if_neg (Nat.not_le.2 hquota),
    available_eq_none_of_noneAvailable hnone]

theorem miss_take (hup : s.mli.state = .up) (hactive : s.mnt.opState = .active)
    (hquota : s.rqt.requesters[r].held < s.rqt.requesters[r].quota) {i : EntryNo} (htakes : Takes s r i) :
    s.miss e r = (s.create i e r).answer .retry := by
  simp only [miss_taken e hup hactive, State.seekEntry, State.admission, if_neg (Nat.not_le.2 hquota),
    available_eq_some_of_takes htakes]

end Miss

theorem countUp_eq_upTo255 (c : BitVec 8) : countUp c = upTo255 c := by
  unfold countUp upTo255
  apply BitVec.eq_of_toNat_eq
  rw [BitVec.toNat_ofNat]
  split
  · next h =>
    rw [h]
    rfl
  · next h =>
    have hne : c.toNat ≠ 255 := fun hc => h (BitVec.eq_of_toNat_eq hc)
    have hlt := c.isLt
    rw [BitVec.toNat_add, BitVec.toNat_ofNat]
    omega

theorem countRefusal_requesterChanged (r : RequesterNo) (s : State) :
    RequesterChanged r (fun x => { x with refusals := upTo255 x.refusals }) s (s.countRefusal r) := by
  refine ⟨RequesterTable.update_staging .., fun q => ?_⟩
  rw [State.countRefusal_rqt, RequesterTable.update_get]
  simp only [countUp_eq_upTo255]

theorem create_requesterChanged (i : EntryNo) (e : Entry) (r : RequesterNo) (s : State) :
    RequesterChanged r (fun x => { x with held := x.held + 1 }) s (s.create i e r) :=
  ⟨RequesterTable.update_staging .., fun q => RequesterTable.update_get r q _ s.rqt⟩

theorem create_entryChanged (i : EntryNo) (e : Entry) (r : RequesterNo) (s : State) :
    EntryChanged i e s (s.create i e r) := fun j => by rw [State.create_entries, set_get]

/-- Settles O10: a request handed over without a match is a miss, which is tested in this order. -/
theorem missIsRefusedOrCreatesEntry : Obligations.MissIsRefusedOrCreatesEntry := by
  intro q s e hover hcmd hnone
  rw [exec_of_miss hover hcmd hnone]
  refine ⟨fun hdown => ?_, fun hup hop => ?_, fun hup hactive hquota => ?_, fun hup hactive hquota hnone => ?_,
    fun hup hactive hquota i htakes => ?_⟩
  · rw [miss_linkDown e hdown]
    rfl
  · rw [miss_turnedAway e hup hop]
    rfl
  · rw [miss_overQuota e hup hactive hquota]
    exact ⟨_, rfl, countRefusal_requesterChanged q.requester s, rfl⟩
  · rw [miss_noEntry e hup hactive hquota hnone]
    exact ⟨_, rfl, countRefusal_requesterChanged q.requester s, rfl⟩
  · rw [miss_take e hup hactive hquota htakes]
    exact ⟨_, rfl, create_requesterChanged i e q.requester s, create_entryChanged i e q.requester s, rfl, rfl⟩

/-- Settles O11: a SYNC that finds the queue empty is answered, and any other is a miss. -/
theorem syncIsAnsweredRefusedOrCreatesEntry : Obligations.SyncIsAnsweredRefusedOrCreatesEntry := by
  intro q s e hover hcmd hnone
  rw [exec_of_sync hover hcmd hnone]
  refine ⟨fun hempty => ?_, fun hqueue hdown => ?_, fun hqueue hup hop => ?_, fun hqueue hup hactive hquota => ?_,
    fun hqueue hup hactive hquota hnone => ?_, fun hqueue hup hactive hquota i htakes => ?_⟩
  · rw [if_pos hempty]
    rfl
  · rw [if_neg hqueue, miss_linkDown _ hdown]
    rfl
  · rw [if_neg hqueue, miss_turnedAway _ hup hop]
    rfl
  · rw [if_neg hqueue, miss_overQuota _ hup hactive hquota]
    exact ⟨_, rfl, countRefusal_requesterChanged q.requester s, rfl⟩
  · rw [if_neg hqueue, miss_noEntry _ hup hactive hquota hnone]
    exact ⟨_, rfl, countRefusal_requesterChanged q.requester s, rfl⟩
  · rw [if_neg hqueue, miss_take _ hup hactive hquota htakes]
    exact ⟨_, rfl, create_requesterChanged i (syncEntry q.requester s.pwq.length) q.requester s,
      create_entryChanged i (syncEntry q.requester s.pwq.length) q.requester s, rfl, rfl⟩

end Sys2Proof.RequestProofs

/-! # Proofs: ARBITER_GRANT -/

namespace Sys2Proof.ArbiterProofs

open Sys2Proof Sys2Proof.Machine Sys2Proof.Claims Sys2Proof.WindowCommitProofs Sys2Proof.MoveProofs

/-! ## The candidates in the manual's terms -/

theorem oldestQueued_isSome_iff {q : List PostedWrite} :
    (oldestQueued q).isSome = true ↔ ∃ w ∈ q, w.state = .queued := by
  simp [oldestQueued, List.find?_isSome]

theorem writeEligible_iff {s : State} : s.writeEligible = true ↔ WriteEligible s := by
  simp only [State.writeEligible, WriteEligible, MemoryLink.hasRoom, Bool.and_eq_true, oldestQueued_isSome_iff,
    beq_iff_eq, decide_eq_true_eq]
  tauto

theorem hazardBlocked_iff {s : State} {e : Entry} : hazardBlocked s.pwq e = true ↔ Blocked s e := by
  simp [hazardBlocked, Blocked, downLine]

theorem lowestFreeTag_isSome_iff {m : MemoryLink} : m.lowestFreeTag.isSome = true ↔ ∃ t : TagNo, m.tags[t] = .free := by
  simp [MemoryLink.lowestFreeTag, List.find?_isSome]

theorem deferralEligible_iff_manual {s : State} {i : EntryNo} : s.deferralEligible i = true ↔ DeferralEligible s i := by
  rw [deferralEligible_iff, DeferralEligible, ← hazardBlocked_iff, Bool.not_eq_true, lowestFreeTag_isSome_iff]

theorem oldestDeferral_of_oldestEligible {s : State} {i : EntryNo} (h : OldestEligible s i) :
    s.oldestDeferral = some i := by
  obtain ⟨pre, post, hage, heligible, hpre⟩ := h
  rw [State.oldestDeferral, hage, List.find?_append, List.find?_eq_none.2 fun j hj => ?_, List.find?_cons_of_pos,
    Option.none_or]
  · exact deferralEligible_iff_manual.2 heligible
  · exact mt deferralEligible_iff_manual.1 (hpre j hj)

theorem oldestDeferral_eq_none {s : State} (h : ∀ j ∈ s.dt.age, ¬ DeferralEligible s j) : s.oldestDeferral = none :=
  List.find?_eq_none.2 fun j hj => mt deferralEligible_iff_manual.1 (h j hj)

/-! ## The decision -/

theorem exec_arbiterGrant (s : State) : exec .arbiterGrant s = .next s.grant := rfl

section Decision

variable {s : State}

theorem grantDecision_of_write {w : PostedWrite} (hqueued : oldestQueued s.pwq = some w) (heligible : WriteEligible s)
    (hturn : s.streak < s.mnt.settings.writeBurst.toNat ∨ s.oldestDeferral = none) :
    s.grantDecision = .write w := by
  have hup := heligible.1
  have heligible := writeEligible_iff.2 heligible
  unfold State.grantDecision
  rw [if_neg (not_not.2 hup), hqueued]
  cases hdeferral : s.oldestDeferral with
  | none => exact if_pos heligible
  | some i => exact if_pos ⟨heligible, hturn.resolve_right (by simp [hdeferral])⟩

theorem grantDecision_of_entry {i : EntryNo} (hturn : DeferralTurn s) (holdest : OldestEligible s i) :
    s.grantDecision = .entry i := by
  obtain ⟨hup, hwrite⟩ := hturn
  rw [← writeEligible_iff] at hwrite
  unfold State.grantDecision
  rw [if_neg (not_not.2 hup), oldestDeferral_of_oldestEligible holdest]
  exact if_neg hwrite

theorem grantDecision_of_none
    (h : s.mli.state ≠ .up ∨ (¬ WriteEligible s ∧ ∀ j ∈ s.dt.age, ¬ DeferralEligible s j)) :
    s.grantDecision = .nothing := by
  unfold State.grantDecision
  split
  · rfl
  · next hup =>
    obtain ⟨hwrite, hnone⟩ := h.resolve_left hup
    rw [oldestDeferral_eq_none hnone]
    exact if_neg (mt writeEligible_iff.1 hwrite)

end Decision

/-! ## The statements -/

/-- Settles O12: the decision falls on the write candidate, whose grant is an update of the queue, the streak and the
link. -/
theorem writeCandidateIsGranted : Obligations.WriteCandidateIsGranted := by
  intro s pre post w ⟨hqueue, hqueued, hpre⟩ heligible hturn
  have holdest : oldestQueued s.pwq = some w := hqueue ▸ oldestQueued_split hqueued hpre
  have hdecision := grantDecision_of_write holdest heligible (hturn.imp_right oldestDeferral_eq_none)
  have hissued : issueOldest s.pwq = pre ++ { w with state := .issued } :: post := hqueue ▸ issueOldest_split hqueued hpre
  rw [exec_arbiterGrant, State.grant, hdecision]
  simp only [State.grantWrite, hissued]
  rfl

theorem down_of_fields {e : Entry} {l : DownLine} {sp : Span} (hline : e.line = some l) (hspan : e.span = some sp) :
    e.down.getD 0 = l ++ sp.offset ∧ e.spanLength = sp.length := by
  simp [Entry.down, Entry.spanLength, hline, hspan, downByte]

/-- Settles O13: the decision falls on the entry, and the tag is the lowest-numbered FREE one. -/
theorem oldestReadIsGranted : Obligations.OldestReadIsGranted := by
  intro s i t l sp hturn holdest hkind hline hspan htag
  obtain ⟨hdown, hlength⟩ := down_of_fields hline hspan
  rw [exec_arbiterGrant, State.grant, grantDecision_of_entry hturn holdest]
  simp only [State.grantEntry, if_neg (hkind.trans_ne (by decide : some EntryKind.read ≠ some .npWrite)),
    MemoryLink.lowestFreeTag_eq_some.2 htag, State.grantRead, hdown, hlength]
  rfl

/-- Settles O14: the decision falls on the entry, and the freshness rules at its ordering point leave the entry itself
alone. -/
theorem oldestNpWriteIsGranted : Obligations.OldestNpWriteIsGranted := by
  intro s i l sp d hturn holdest hkind hline hspan hdata
  obtain ⟨hdown, hlength⟩ := down_of_fields hline hspan
  have hgrant : exec .arbiterGrant s = .next (s.grantNpWrite i) := by
    rw [exec_arbiterGrant, State.grant, grantDecision_of_entry hturn holdest]
    exact congrArg Host.Outcome.next (if_pos hkind)
  have hline' : s.dt.entries[i].line.getD 0 = l := by rw [hline]; rfl
  refine ⟨_, hgrant, fun j => ?_, ?_, ?_, ?_⟩
  · simp only [State.grantNpWrite, hline', DeferralTable.put_entries, set_get]
  · simp only [State.grantNpWrite, DeferralTable.put_age, State.freshen_age]
  · simp only [State.grantNpWrite, hline']
  · simp only [State.grantNpWrite, hdown, hlength, hdata, State.freshen_wt, State.freshen_rqt, State.freshen_waiting,
      State.freshen_pwq, State.freshen_mnt, State.freshen_ticks, State.freshen_powerOn, State.freshen_pending]
    rfl

/-- Settles O15: the decision is to grant nothing. -/
theorem noEligibleCandidateNoGrant : Obligations.NoEligibleCandidateNoGrant := by
  intro s h
  rw [exec_arbiterGrant, State.grant, grantDecision_of_none h]

/-! ## The hazard block -/

/-- R153: the freshness rules leave WAITING entries. -/
theorem freshened_of_waiting {l : DownLine} {e : Entry} (h : e.state = .waiting) : e.freshened l = e := by
  obtain h' | ⟨-, hheld, -⟩ | ⟨-, hissued, -⟩ := e.freshened_cases l
  · exact h'
  · simp [h] at hheld
  · simp [h] at hissued

/-- The grant of an entry takes no other entry out of WAITING. -/
theorem grantEntry_waiting {s : State} {i j : EntryNo} (hij : j ≠ i) (h : s.dt.entries[j].state = .waiting) :
    (s.grantEntry i).dt.entries[j].state = .waiting := by
  unfold State.grantEntry
  split
  · simp only [State.grantNpWrite, DeferralTable.put_entries, set_get, if_neg hij, State.freshen_get,
      freshened_of_waiting h, h]
  · split
    · simp only [State.grantRead, DeferralTable.put_entries, set_get, if_neg hij, h]
    · exact h

/-- Settles O16: the one entry that a decision takes out of WAITING was eligible. -/
theorem hazardBlockedEntryIsNeverGranted : Obligations.HazardBlockedEntryIsNeverGranted := by
  intro s t i hexec hwaiting hgone
  obtain rfl : s.grant = t := Host.Outcome.next.inj hexec
  unfold State.grant at hgone
  split at hgone
  · exact absurd hwaiting hgone
  · next j hdecision =>
    obtain ⟨-, -, heligible⟩ := State.grantDecision_entry hdecision
    by_cases hij : i = j
    · exact hij ▸ (deferralEligible_iff_manual.1 heligible).2.2.1
    · exact absurd (grantEntry_waiting hij hwaiting) hgone
  · exact absurd hwaiting hgone

end Sys2Proof.ArbiterProofs

/-! # Proofs: answers that entries wait for -/

namespace Sys2Proof.AnswerProofs

open Sys2Proof Sys2Proof.Machine Sys2Proof.Claims Sys2Proof.WindowCommitProofs Sys2Proof.UnawaitedAnswerProofs
  Sys2Proof.FreshnessProofs Sys2Proof.MoveProofs Sys2Proof.SyncCountProofs Sys2Proof.RequestProofs

/-! ## READ_CPL to an ISSUED entry -/

section Issued

variable {s : State} {c : ReadCompletion} {i : EntryNo} {sp : Span}

theorem exec_readCpl_issued (hon : s.powerOn = false) (htag : s.mli.tags[c.tag] = .bound i)
    (hstate : s.dt.entries[i].state = .issued) :
    exec (.readCpl c) s = .next (s.completeIssued (completionCheckPasses c s.dt.entries[i]) c i) := by
  simp only [exec_readCpl hon, State.completion, State.completionOk, htag, hstate]

/-- R119, R155: what a good completion makes of the entry. -/
theorem completed_good (data : List Byte) (s : State) (e : Entry) :
    e.completed true .ok data s.mnt.settings.discardTime.toNat =
      if e.stale = false then heldWith .ok (some data) s e
      else if e.refetch < 3 then
        { e with
          state := .waiting, tag := none, completionTimer := none, stale := false, data := none
          result := none, refetch := e.refetch + 1 }
      else { heldWith .ok (some data) s e with limit := true } := by
  rw [Entry.completed, if_pos (show completionResult true .ok = .ok from rfl)]
  cases e.stale <;> rfl

theorem completionReportsLimit_good (e : Entry) :
    e.completionReportsLimit true .ok = true ↔ e.stale = true ∧ 3 ≤ e.refetch ∧ e.limit = false := by
  simp [Entry.completionReportsLimit, completionResult, and_assoc]

/-- R132, R156: the records of a good completion. -/
theorem goodRecords (e : Entry) (f : FaultUnit) (r : FaultRecord) :
    f.appendAll (if e.completionReportsLimit true .ok then [r] else []) =
      if e.stale = true ∧ 3 ≤ e.refetch ∧ e.limit = false then f.append r else f := by
  simp only [completionReportsLimit_good]
  split <;> rfl

/-- Settles O17: the check passes, so that the completion is good, and the stale mark and the refetch count decide. -/
theorem goodCompletionHoldsOrRefetches : Obligations.GoodCompletionHoldsOrRefetches := by
  intro s c i sp hon htag hstate hspan hstatus hcode hlength
  have hcheck : completionCheckPasses c s.dt.entries[i] = true :=
    (completionCheckPasses_iff hspan).2 ⟨hcode, hlength⟩
  have hread : readStatus c.status = .ok := by rw [hstatus]; rfl
  have hrecords : s.completionRecord true c.tag i .ok = [] := rfl
  rw [exec_readCpl_issued hon htag hstate, hcheck]
  simp only [State.completeIssued, hread, completed_good, hrecords, List.nil_append, goodRecords, limitRecord_eq]
  rfl

/-- A completion that is not good holds the entry with its result. -/
theorem completeIssued_error {checkOk : Bool} {k : FaultKind} {result status : Status}
    (hstatus : readStatus c.status = status) (hkind : completionKind checkOk status = some k)
    (hresult : completionResult checkOk status = result) (hbad : result ≠ .ok) :
    s.completeIssued checkOk c i =
      { s with
        mli := { s.mli with tags := s.mli.tags.set c.tag .free }
        dt := { s.dt with
                entries := s.dt.entries.set i (heldWith result s.dt.entries[i].data s s.dt.entries[i]) }
        flt := s.flt.append { recordOf k i s with tag := some c.tag, status := some status } } := by
  have hlimit : s.dt.entries[i].completionReportsLimit checkOk status = false := by
    simp only [Entry.completionReportsLimit, hresult, beq_false_of_ne hbad, Bool.false_and]
  simp only [State.completeIssued, hstatus, completionRecord_eq, hkind, hlimit, Entry.completed, hresult, if_neg hbad,
    Bool.false_eq_true, if_false, List.append_nil]
  rfl

/-- Settles O18: a status of error, or a failed check of an OK one, gives the kind of record and the result. -/
theorem errorCompletionHoldsError : Obligations.ErrorCompletionHoldsError := by
  intro s c i sp hon htag hstate hspan k result status h
  rw [exec_readCpl_issued hon htag hstate]
  refine congrArg Host.Outcome.next ?_
  obtain ⟨hok, hbad, rfl, rfl, rfl⟩ | ⟨hpoison, rfl, rfl, rfl⟩ | ⟨hmemory, rfl, rfl, rfl⟩ |
    ⟨hrefused, rfl, rfl, rfl⟩ := h
  · have hcheck : completionCheckPasses c s.dt.entries[i] = false := by
      rw [Bool.eq_false_iff, ne_eq, completionCheckPasses_iff hspan]
      exact not_and_or.2 hbad
    rw [hcheck]
    exact completeIssued_error (by rw [hok]; rfl) rfl rfl (by decide)
  · exact completeIssued_error (by rw [hpoison]; rfl) rfl rfl (by decide)
  · exact completeIssued_error (by rw [hmemory]; rfl) rfl rfl (by decide)
  · refine completeIssued_error ?_ rfl rfl (by decide)
    obtain h | ⟨x, h⟩ := hrefused <;> rw [h] <;> rfl

end Issued

/-! ## WRITE_ACK -/

theorem exec_ackTimerExpiry (s : State) : exec .ackTimerExpiry s = .next s.ackTimeout := rfl

theorem headDue_of_member {s : State} {f : FlightMember} {fs : List FlightMember} (hflights : s.mli.flights = f :: fs) :
    HeadDue s ↔ f.due = true ∧ s.mli.state = .up := by
  simp [HeadDue, hflights, FlightMember.due, and_comm]

/-- R130: the timer's expiry acts while the head is due. -/
theorem ackTimeout_of_not_due {s : State} (h : ¬ HeadDue s) : s.ackTimeout = s := by
  obtain h' | ⟨f, fs, hflights, hdue, hup, -⟩ := s.ackTimeout_cases
  · exact h'
  · exact absurd ⟨hup, f, fs, hflights, hdue⟩ h

theorem ackTimeout_of_due {s : State} {f : FlightMember} {fs : List FlightMember} (hflights : s.mli.flights = f :: fs)
    (hdue : f.ackTimeout ≤ f.elapsed) (hup : s.mli.state = .up) :
    s.ackTimeout = { s.log [s.ackTimeoutRecord f.ref] with mli := s.mli.leaveUp } := by
  have hdue : f.due = true := decide_eq_true hdue
  simp only [State.ackTimeout, hflights, hdue, hup, and_self, if_true]

/-- R131: the expiry that follows an acknowledgement. -/
theorem thenExpires_ackTimeout (u : State) : ThenExpires u u.ackTimeout :=
  ⟨fun _ => exec_ackTimerExpiry u, ackTimeout_of_not_due⟩

theorem ackStatus_eq {status : LinkStatus} {st : Status}
    (h : st = (match status with
          | .ok => Status.ok
          | .noMemory => .noMemory
          | _ => .refused)) : ackStatus status = st := by
  rw [h]
  cases status <;> rfl

/-- The state of an acknowledged record, before the part may become QUIESCED. -/
def recordDeparted (st : Status) (w : PostedWrite) (fs : List FlightMember) (s : State) : State :=
  State.depart w.requester (st != .ok)
    (State.log (failRecords st w s) { s with mli := { s.mli with flights := fs } })

theorem recordDeparted_frame (st : Status) (w : PostedWrite) (fs : List FlightMember) (s : State) :
    recordDeparted st w fs s =
      { s with
        pwq := (recordDeparted st w fs s).pwq, dt := (recordDeparted st w fs s).dt
        flt := (recordDeparted st w fs s).flt, mli := { s.mli with flights := fs } } := by
  simp only [recordDeparted, State.depart, State.log]

theorem ack_posted {s : State} {f : FlightMember} {fs : List FlightMember} {w : PostedWrite} {ws : List PostedWrite}
    (status : LinkStatus) (hflights : s.mli.flights = f :: fs) (href : f.ref = .posted) (hqueue : s.pwq = w :: ws) :
    s.ack status = (recordDeparted (ackStatus status) w fs s).settleQuiesce := by
  simp only [State.ack, hflights, href]
  exact ackPosted_eq (s := { s with mli := { s.mli with flights := fs } }) _ hqueue

/-- Settles O21: the head record departs with its member, and the timer of the new head is tested. -/
theorem acknowledgedRecordLeavesQueue : Obligations.AcknowledgedRecordLeavesQueue := by
  intro s status st f fs w ws hon hflights href hqueue hst
  obtain rfl := ackStatus_eq hst
  refine ⟨(recordDeparted (ackStatus status) w fs s).settleQuiesce, _, ?_, thenExpires_ackTimeout _, ?_, fun j => ?_, ?_,
    ?_, settleQuiesce_mnt (by simp only [recordDeparted, State.depart_mnt, State.log_mnt]), ?_⟩
  · rw [exec_writeAck hon, ack_posted status hflights href hqueue]
  · simp only [State.settleQuiesce_pwq, recordDeparted, State.depart_pwq, State.log_pwq, hqueue, List.tail_cons]
  · rw [State.settleQuiesce_dt, recordDeparted, State.depart_get]
    rfl
  · rw [State.settleQuiesce_dt, recordDeparted, State.depart_age]
    rfl
  · rw [State.settleQuiesce_flt, recordDeparted, State.depart_flt, State.log_flt, failRecords]
    split <;> rfl
  · have hquiesce := CommandProofs.settleQuiesce_frame (recordDeparted (ackStatus status) w fs s)
    generalize State.settleQuiesce _ = u at hquiesce ⊢
    rw [hquiesce, recordDeparted_frame]

/-- The state of an acknowledged orphan with its record made, before its entry is freed. -/
def orphanAcknowledged (st : Status) (i : EntryNo) (fs : List FlightMember) (s : State) : State :=
  State.log [unreported i (some st) s] { s with mli := { s.mli with flights := fs } }

theorem ack_npWrite_issued {s : State} {f : FlightMember} {fs : List FlightMember} {i : EntryNo} (status : LinkStatus)
    (hflights : s.mli.flights = f :: fs) (href : f.ref = .npWrite i) (hstate : s.dt.entries[i].state = .issued) :
    s.ack status =
      { s with
        mli := { s.mli with flights := fs }
        dt := { s.dt with
                entries := s.dt.entries.set i
                  (heldWith (ackStatus status) s.dt.entries[i].data s s.dt.entries[i]) } } := by
  simp only [State.ack, hflights, href, State.ackNpWrite, hstate]
  rfl

theorem ack_npWrite_orphaned {s : State} {f : FlightMember} {fs : List FlightMember} {i : EntryNo} (status : LinkStatus)
    (hflights : s.mli.flights = f :: fs) (href : f.ref = .npWrite i) (hstate : s.dt.entries[i].state = .orphaned) :
    s.ack status = (orphanAcknowledged (ackStatus status) i fs s).freeEntry i := by
  simp only [State.ack, hflights, href, State.ackNpWrite, hstate, unreportedRecord_eq]
  rfl

/-- Settles O23: the entry's state decides, and the timer of the new head is tested. -/
theorem acknowledgedNpWriteIsHeldOrFreed : Obligations.AcknowledgedNpWriteIsHeldOrFreed := by
  intro s status st f fs i hon hflights href hst
  obtain rfl := ackStatus_eq hst
  refine ⟨fun hissued => ⟨_, ?_, thenExpires_ackTimeout _⟩, fun horphaned => ?_⟩
  · rw [exec_writeAck hon, ack_npWrite_issued status hflights href hissued]
  · have hframe := freeEntry_frame i (orphanAcknowledged (ackStatus status) i fs s)
    have hfreed : EntryFreed i id s ((orphanAcknowledged (ackStatus status) i fs s).freeEntry i) :=
      entryFreed_freeEntry (s := orphanAcknowledged (ackStatus status) i fs s) (horphaned.trans_ne (by decide))
    refine ⟨_, _, ?_, thenExpires_ackTimeout _, hfreed, ?_, hframe.trans ?_⟩
    · rw [exec_writeAck hon, ack_npWrite_orphaned status hflights href horphaned]
    · rw [hframe]
      rfl
    · rw [hframe]
      rfl

/-- Settles O22: the accounting of a WAITING SYNC with a count above 0, and no other entry's. -/
theorem departureCountsDownSyncs : Obligations.DepartureCountsDownSyncs := by
  intro e r failed time
  refine ⟨fun n hstate hkind hpending marked hmarked => ?_, fun hnot => ?_⟩
  · have hmark : (countedDown r failed n e).failure = marked := by
      rw [hmarked, countedDown, beq_eq_decide]
    rw [accounted_of_sync r failed time ⟨hstate, hkind⟩ hpending, hmark]
    split
    · next hn =>
      subst hn hmark
      rfl
    · subst hmark
      rfl
  · obtain h | ⟨hstate, hkind, n, marked, hpending, -⟩ := e.accounted_cases r failed time
    · exact h
    · exact absurd ⟨hstate, hkind, by rw [hpending]; exact Nat.succ_pos n⟩ hnot

/-! ## CREDIT and LINK_UP -/

/-- Settles O24: each indication is tested for the state of the link alone. -/
theorem creditAndLinkUp : Obligations.CreditAndLinkUp := by
  intro s n hon
  have hnot : ¬ s.powerOn = true := Bool.eq_false_iff.1 hon
  have hcredit : exec (.credit n) s = .next (s.takeCredit n.val) := congrArg Host.Outcome.next (if_neg hnot)
  have hlinkUp : exec .linkUp s = .next s.comeUp := congrArg Host.Outcome.next (if_neg hnot)
  rw [hcredit, hlinkUp]
  exact ⟨fun hup => congrArg Host.Outcome.next (if_pos hup), fun hup => congrArg Host.Outcome.next (if_neg hup),
    fun hdown => congrArg Host.Outcome.next (if_pos hdown), fun hdown => congrArg Host.Outcome.next (if_neg hdown)⟩

end Sys2Proof.AnswerProofs

/-! # Proofs: the timers -/

namespace Sys2Proof.TimerProofs

open Sys2Proof Sys2Proof.Machine Sys2Proof.Claims Sys2Proof.WindowCommitProofs Sys2Proof.UnawaitedAnswerProofs
  Sys2Proof.FreshnessProofs Sys2Proof.MoveProofs Sys2Proof.HolderProofs Sys2Proof.FormedProofs
  Sys2Proof.SyncCountProofs Sys2Proof.RequestProofs Sys2Proof.AnswerProofs Sys2Proof.ArbiterProofs
  Sys2Proof.ReservationExpiryProofs

/-! ## COMPLETION_TIMER_EXPIRY -/

section Completion

variable {s : State} {i : EntryNo} {u : TagNo}

theorem exec_completionTimerExpiry (i : EntryNo) (s : State) :
    exec (.completionTimerExpiry i) s = .next (s.expireCompletion i) := rfl

theorem expireCompletion_of_due (hstate : s.dt.entries[i].state = .issued ∨ s.dt.entries[i].state = .orphaned)
    (htimer : s.dt.entries[i].completionTimer = some 0) (htag : s.dt.entries[i].tag = some u) :
    s.expireCompletion i = s.readTimeout i u := by
  have hdue : s.dt.entries[i].completionDue = true := by
    simpa [-Fin.getElem_fin, Entry.completionDue, htimer] using hstate
  rw [State.expireCompletion, if_pos hdue, htag]

theorem quarantineOf_eq {r : RequesterNo} {l : DownLine} {sp : Span} (hrequester : s.dt.entries[i].requester = some r)
    (hline : s.dt.entries[i].line = some l) (hspan : s.dt.entries[i].span = some sp) :
    quarantineOf i s = .quarantined r (l ++ sp.offset) i := by
  rw [quarantineOf, hrequester, (down_of_fields hline hspan).1, Option.getD_some]

theorem limited_eq (m : MemoryLink) : limited m = if 8 ≤ m.countTags 2 ∧ m.state = .up then m.leaveUp else m := by
  unfold limited
  rfl

/-- Settles O27: the tag and the record in one, then the entry by its state, behind the test of the limit. -/
theorem completionTimeoutQuarantinesTag : Obligations.CompletionTimeoutQuarantinesTag := by
  intro s i u r l sp htimer htag hrequester hline hspan tags n mli flt htags hn hmli hflt
  have hquarantine := quarantineOf_eq hrequester hline hspan
  have hlimited : limited (s.mli.setTag u (quarantineOf i s)) = mli := by
    rw [hmli, hn, htags, hquarantine, limited_eq]
    rfl
  have hrecords : s.flt.appendAll (timeoutRecords i u s) = flt := by
    rw [hflt, hn, htags, timeoutRecords, limitRecords, hquarantine, entryRecord_eq_recordOf]
    rfl
  refine ⟨fun hissued => ?_, fun horphaned => ?_⟩
  · rw [exec_completionTimerExpiry, expireCompletion_of_due (.inl hissued) htimer htag, readTimeout_issued hissued,
      hlimited, hrecords]
    rfl
  · have hfreed : EntryFreed i id s (s.freeEntry i) := entryFreed_freeEntry (horphaned.trans_ne (by decide))
    refine ⟨{ s.freeEntry i with mli := mli, flt := flt }, ?_, hfreed, ?_⟩
    · rw [exec_completionTimerExpiry, expireCompletion_of_due (.inr horphaned) htimer htag,
        readTimeout_orphaned horphaned, hlimited, hrecords]
    · have hframe := freeEntry_frame i s
      generalize s.freeEntry i = v at hframe ⊢
      rw [hframe]

end Completion

/-! ## ACK_TIMER_EXPIRY -/

theorem ackTimeoutRecord_posted {s : State} {w : PostedWrite} {ws : List PostedWrite} (hqueue : s.pwq = w :: ws) :
    s.ackTimeoutRecord .posted =
      { kind := .ackTimeout, time := s.ticks, requester := some w.requester, down := some w.address } := by
  simp only [State.ackTimeoutRecord, hqueue]
  rfl

/-- Settles O28: the head's time and the state of the link decide, and the head's kind gives the record. -/
theorem ackTimeoutResetsLink : Obligations.AckTimeoutResetsLink := by
  intro s f fs hflights
  rw [exec_ackTimerExpiry]
  refine ⟨fun hdue hup w ws href hqueue => ?_, fun hdue hup i href => ?_, fun hnot => ?_⟩
  · rw [ackTimeout_of_due hflights hdue hup, href, ackTimeoutRecord_posted hqueue]
    rfl
  · rw [ackTimeout_of_due hflights hdue hup, href]
    simp only [State.ackTimeoutRecord, entryRecord_eq_recordOf]
    rfl
  · refine congrArg Host.Outcome.next (ackTimeout_of_not_due ?_)
    rw [headDue_of_member hflights, FlightMember.due, decide_eq_true_iff, not_and_or, Nat.not_le]
    exact hnot

/-! ## DISCARD_TIMER_EXPIRY -/

section Discard

variable {s : State} {i : EntryNo}

/-- The state of a discard with its record made and counted, before the entry is freed. -/
def discardCounted (i : EntryNo) (s : State) : State :=
  (s.log [s.discardRecord i]).countDiscard s.dt.entries[i].requester

theorem discard_eq (i : EntryNo) (s : State) : s.discard i = (discardCounted i s).freeEntry i := rfl

theorem discardRecord_eq (i : EntryNo) (s : State) :
    s.discardRecord i =
      { recordOf (if s.dt.entries[i].kind = some .npWrite then .npWriteDiscard else .discard) i s with
        status := s.dt.entries[i].result } := by
  simp only [State.discardRecord, entryRecord_eq_recordOf]

/-- R58, R71: the discard is counted for the requester of the entry, if it has one. -/
theorem countDiscard_get (x : Option RequesterNo) (s : State) (r : RequesterNo) :
    (s.countDiscard x).rqt.requesters[r] =
      if x = some r then { s.rqt.requesters[r] with discards := upTo255 s.rqt.requesters[r].discards }
      else s.rqt.requesters[r] := by
  cases x with
  | none => rfl
  | some q =>
    rw [State.countDiscard, RequesterTable.update_get]
    simp only [countUp_eq_upTo255, Option.some_inj]
    simp only [eq_comm]

theorem discardCounted_frame (i : EntryNo) (s : State) :
    discardCounted i s =
      { s with rqt := (discardCounted i s).rqt, flt := s.flt.append (s.discardRecord i) } := by
  unfold discardCounted
  rw [State.countDiscard_eq]
  rfl

theorem discardCounted_staging (i : EntryNo) (s : State) : (discardCounted i s).rqt.staging = s.rqt.staging := by
  unfold discardCounted
  cases s.dt.entries[i].requester <;> rfl

theorem discardCounted_keeps (i : EntryNo) (s : State) :
    (discardCounted i s).waiting = s.waiting ∧ (discardCounted i s).dt = s.dt ∧ (discardCounted i s).mnt = s.mnt := by
  rw [discardCounted_frame]
  exact ⟨rfl, rfl, rfl⟩

/-- R58: the freeing of the entry in the state that has counted the discard. -/
theorem discard_entryFreed (hheld : s.dt.entries[i].state = .held) :
    EntryFreed i (fun x => { x with discards := upTo255 x.discards }) s (s.discard i) := by
  obtain ⟨hwaiting, hdt, hmnt⟩ := discardCounted_keeps i s
  have hcount := countDiscard_get s.dt.entries[i].requester (s.log [s.discardRecord i])
  have hstaging := discardCounted_staging i s
  obtain ⟨hwaiting', hentries, hage, hstaging', hrequesters, hmnt'⟩ :=
    entryFreed_freeEntry (i := i) (s := discardCounted i s) (by rw [hdt, hheld]; decide)
  rw [← discard_eq] at *
  refine ⟨by rw [hwaiting', hwaiting], fun j => ?_, by rw [hage, hdt], hstaging'.trans hstaging, fun r => ?_, ?_⟩
  · rw [hentries, hwaiting, hmnt, hdt]
  · rw [hrequesters, hdt]
    split
    · next hr =>
      rw [id, show (discardCounted i s).rqt.requesters[r] = _ from hcount r, if_pos hr]
      rfl
    · next hr =>
      rw [show (discardCounted i s).rqt.requesters[r] = _ from hcount r, if_neg hr]
      rfl
  · rw [hmnt', opAfter, opAfter, hmnt]

/-- Settles O29: the record is made, the discard counted, and the entry freed. -/
theorem discardFreesHeldEntry : Obligations.DiscardFreesHeldEntry := by
  intro s i hheld htimer
  refine ⟨s.discard i, congrArg Host.Outcome.next (if_pos ⟨hheld, htimer⟩), discard_entryFreed hheld, ?_⟩
  have hframe := freeEntry_frame i (discardCounted i s)
  have hcounted := discardCounted_frame i s
  rw [discardRecord_eq] at hcounted
  rw [← discard_eq] at hframe
  generalize s.discard i = t at hframe ⊢
  rw [hframe, hcounted]

end Discard

/-! ## The expiries of one tick -/

/-- The command of a timer's expiry. -/
def expiryOf : Timer → Instr
  | .completion i => .completionTimerExpiry i
  | .acknowledgement => .ackTimerExpiry
  | .discard i => .discardTimerExpiry i
  | .reservation i => .reservationTimerExpiry i

theorem exec_expiryOf (x : Timer) (s : State) : exec (expiryOf x) s = .next (s.expire x) := by
  cases x <;> rfl

theorem runs_expiries (xs : List Timer) (s : State) : Runs (xs.map expiryOf) s (xs.foldl State.expire s) := by
  induction xs generalizing s with
  | nil => rfl
  | cons x xs ih => exact ⟨_, exec_expiryOf x s, ih _⟩

theorem dueExpiries_eq (s : State) : dueExpiries s = s.dueTimers.map expiryOf := by
  have hcompletion := entriesWhere_eq_ascending (f := fun e => e.completionTimer == some 0) (es := s.dt.entries)
    (p := fun i => s.dt.entries[i].completionTimer = some 0) fun _ => beq_iff_eq
  have hdiscard := entriesWhere_eq_ascending (f := fun e => e.discardTimer == some 0) (es := s.dt.entries)
    (p := fun i => s.dt.entries[i].discardTimer = some 0) fun _ => beq_iff_eq
  have hreservation := entriesWhere_eq_ascending (f := fun e => e.reservationTimer == some 0) (es := s.dt.entries)
    (p := fun i => s.dt.entries[i].reservationTimer = some 0) fun _ => beq_iff_eq
  simp only [dueExpiries, State.dueTimers, hcompletion, hdiscard, hreservation, List.map_append, List.map_map,
    List.map_cons, List.append_assoc, List.singleton_append]
  rfl

/-- No timer of the entry has reached its time. -/
def Quiet (e : Entry) : Prop :=
  e.completionTimer ≠ some 0 ∧ e.discardTimer ≠ some 0 ∧ e.reservationTimer ≠ some 0

/-- The timer is one of entry j, and has reached its time. -/
def Expired : Timer → EntryNo → Entry → Prop
  | .completion i, j, e => i = j ∧ e.completionTimer = some 0
  | .acknowledgement, _, _ => False
  | .discard i, j, e => i = j ∧ e.discardTimer = some 0
  | .reservation i, j, e => i = j ∧ e.reservationTimer = some 0

theorem quiet_of_not_expired {s : State} {j : EntryNo} (h : ∀ x ∈ s.dueTimers, ¬ Expired x j s.dt.entries[j]) :
    Quiet s.dt.entries[j] := by
  have hmem : ∀ x, x ∈ s.dueTimers ↔
      (∃ i : EntryNo, s.dt.entries[i].completionTimer = some 0 ∧ x = .completion i) ∨ x = .acknowledgement ∨
        (∃ i : EntryNo, s.dt.entries[i].discardTimer = some 0 ∧ x = .discard i) ∨
        ∃ i : EntryNo, s.dt.entries[i].reservationTimer = some 0 ∧ x = .reservation i := fun x => by
    simp only [State.dueTimers, List.mem_append, List.mem_map, mem_entriesWhere, beq_iff_eq, List.mem_singleton,
      or_assoc, eq_comm (b := x)]
  refine ⟨fun hdue => ?_, fun hdue => ?_, fun hdue => ?_⟩
  · exact h (.completion j) ((hmem _).2 (.inl ⟨j, hdue, rfl⟩)) ⟨rfl, hdue⟩
  · exact h (.discard j) ((hmem _).2 (.inr (.inr (.inl ⟨j, hdue, rfl⟩)))) ⟨rfl, hdue⟩
  · exact h (.reservation j) ((hmem _).2 (.inr (.inr (.inr ⟨j, hdue, rfl⟩)))) ⟨rfl, hdue⟩

/-- The settings that start the timers of an expired entry anew are not 0. -/
def TimersStart (s : State) : Prop := s.mnt.settings.discardTime.toNat ≠ 0 ∧ s.mnt.settings.reservationTime.toNat ≠ 0

theorem quiet_of_offered {w : List RequesterNo} {time : Nat} (htime : time ≠ 0) {e : Entry}
    (hcompletion : e.completionTimer = none) (hdiscard : e.discardTimer = none) :
    Quiet { e with reservedFor := w.head?, reservationTimer := w.head?.map fun _ => time } := by
  refine ⟨by simp [hcompletion], by simp [hdiscard], ?_⟩
  cases w with
  | nil => exact (Option.some_ne_none 0).symm
  | cons r rest => exact fun h => htime (Option.some.inj h)

/-- Each entry is as before with its timer not expired, or quiet. -/
def Settled (x : Timer) (s t : State) : Prop :=
  ∀ j : EntryNo, Quiet t.dt.entries[j] ∨ t.dt.entries[j] = s.dt.entries[j] ∧ ¬ Expired x j s.dt.entries[j]

theorem settled_of_same {x : Timer} {s t : State} (h : ∀ j : EntryNo, t.dt.entries[j] = s.dt.entries[j])
    (hx : ∀ j, ¬ Expired x j s.dt.entries[j]) : Settled x s t := fun j => .inr ⟨h j, hx j⟩

/-- The expiry of entry i leaves it quiet, and every other entry as it was. -/
theorem settled_of_changed {x : Timer} {s t : State} {i : EntryNo} {e : Entry} (he : Quiet e)
    (hx : ∀ j, j ≠ i → ¬ Expired x j s.dt.entries[j])
    (h : ∀ j : EntryNo, t.dt.entries[j] = if j = i then e else s.dt.entries[j]) : Settled x s t := by
  intro j
  rw [h]
  by_cases hj : j = i
  · rw [if_pos hj]
    exact .inl he
  · rw [if_neg hj]
    exact .inr ⟨rfl, hx j hj⟩

section Expiry

variable {s : State} (hstart : TimersStart s)
include hstart

theorem expireCompletion_settled (i : EntryNo) (hi : s.dt.entries[i].formed = true ∨ Quiet s.dt.entries[i]) :
    Settled (.completion i) s (s.expireCompletion i) := by
  by_cases hdue : s.dt.entries[i].completionTimer = some 0
  · have hformed := hi.resolve_right fun hquiet => hquiet.1 hdue
    have hfree : s.dt.entries[i].state ≠ .free := fun hfree => by
      rw [((formed_free_iff hfree).1 hformed).1] at hdue
      cases hdue
    obtain ⟨-, htimer, -, -, htag, hcompletion, -⟩ := (formed_iff hfree).1 hformed
    rw [hdue] at hcompletion
    obtain ⟨-, hstate⟩ := readInFlight_iff.1 hcompletion.symm
    obtain ⟨t, ht⟩ := Option.isSome_iff_exists.1 (htag.trans hcompletion.symm)
    rw [expireCompletion_of_due hstate hdue ht]
    rcases hstate with hstate | hstate
    · rw [readTimeout_issued hstate]
      refine settled_of_changed (e := s.dt.entries[i].enterHeld .timeout s.mnt.settings.discardTime.toNat)
        ⟨(Option.some_ne_none 0).symm, fun h => hstart.1 (Option.some.inj h), ?_⟩ (fun j hj hx => hj hx.1.symm) fun j =>
        put_get i j _ s.dt
      show s.dt.entries[i].reservationTimer ≠ some 0
      rw [htimer]
      exact (Option.some_ne_none 0).symm
    · rw [readTimeout_orphaned hstate]
      exact settled_of_changed (quiet_of_offered hstart.2 rfl rfl) (fun j hj hx => hj hx.1.symm) fun j =>
        s.freeEntry_get i j
  · have hsame : s.expireCompletion i = s := if_neg fun h => by
      simp only [Entry.completionDue, Bool.and_eq_true, beq_iff_eq] at h
      exact hdue h.2
    rw [hsame]
    refine settled_of_same (fun _ => rfl) fun j hx => ?_
    obtain ⟨rfl, hx⟩ := hx
    exact hdue hx

theorem expireDiscard_settled (i : EntryNo) (hi : s.dt.entries[i].formed = true ∨ Quiet s.dt.entries[i]) :
    Settled (.discard i) s (s.expireDiscard i) := by
  by_cases hdue : s.dt.entries[i].discardTimer = some 0
  · have hformed := hi.resolve_right fun hquiet => hquiet.2.1 hdue
    have hfree : s.dt.entries[i].state ≠ .free := fun hfree => by
      rw [((formed_free_iff hfree).1 hformed).1] at hdue
      cases hdue
    obtain ⟨-, -, -, -, -, -, hdiscard, -⟩ := (formed_iff hfree).1 hformed
    have hheld : s.dt.entries[i].state = .held := by
      rw [hdue] at hdiscard
      exact eq_of_beq hdiscard.symm
    have hexpire : s.expireDiscard i = s.discard i := if_pos ⟨hheld, hdue⟩
    obtain ⟨-, hentries, -⟩ := discard_entryFreed hheld
    rw [hexpire]
    exact settled_of_changed (quiet_of_offered hstart.2 rfl rfl) (fun j hj hx => hj hx.1.symm) hentries
  · have hsame : s.expireDiscard i = s := if_neg fun h => hdue h.2
    rw [hsame]
    refine settled_of_same (fun _ => rfl) fun j hx => ?_
    obtain ⟨rfl, hx⟩ := hx
    exact hdue hx

theorem expireReservation_settled (i : EntryNo) (hi : s.dt.entries[i].formed = true ∨ Quiet s.dt.entries[i]) :
    Settled (.reservation i) s (s.expireReservation i) := by
  by_cases hdue : s.dt.entries[i].reservationTimer = some 0
  · have hformed := hi.resolve_right fun hquiet => hquiet.2.2 hdue
    have hfree : s.dt.entries[i].state = .free := by
      by_contra hfree
      rw [((formed_iff hfree).1 hformed).2.1] at hdue
      cases hdue
    have hshape := ((formed_free_iff hfree).1 hformed).1
    have hexpire := Host.Outcome.next.inj (reservationExpiryPassesEntryOn s i hfree hdue)
    rw [hexpire]
    refine settled_of_changed (quiet_of_offered hstart.2 ?_ ?_) (fun j hj hx => hj hx.1.symm) fun j =>
      set_get s.dt.entries i j _
    · rw [hshape]
      rfl
    · rw [hshape]
      rfl
  · have hsame : s.expireReservation i = s := if_neg fun h => hdue h.2
    rw [hsame]
    refine settled_of_same (fun _ => rfl) fun j hx => ?_
    obtain ⟨rfl, hx⟩ := hx
    exact hdue hx

theorem expire_settled (x : Timer) (hi : ∀ i : EntryNo, s.dt.entries[i].formed = true ∨ Quiet s.dt.entries[i]) :
    Settled x s (s.expire x) := by
  cases x with
  | completion i => exact expireCompletion_settled hstart i (hi i)
  | acknowledgement =>
    refine settled_of_same (fun j => ?_) fun _ => id
    show s.ackTimeout.dt.entries[j] = _
    rw [State.ackTimeout_eq]
  | discard i => exact expireDiscard_settled hstart i (hi i)
  | reservation i => exact expireReservation_settled hstart i (hi i)

end Expiry

/-! ## What the expiries keep -/

theorem readTimeout_keeps {i : EntryNo} {t : TagNo} {s : State}
    (hstate : s.dt.entries[i].state = .issued ∨ s.dt.entries[i].state = .orphaned) :
    (s.readTimeout i t).ticks = s.ticks ∧ (s.readTimeout i t).mnt.settings = s.mnt.settings := by
  rcases hstate with h | h
  · rw [readTimeout_issued h]
    exact ⟨rfl, rfl⟩
  · rw [readTimeout_orphaned h, State.freeEntry_eq]
    exact ⟨rfl, rfl⟩

theorem expire_keeps (x : Timer) (s : State) :
    (s.expire x).ticks = s.ticks ∧ (s.expire x).mnt.settings = s.mnt.settings := by
  obtain h | ⟨i, u, -, hstate, -, -, h⟩ | ⟨f, fs, hx, -, -, -, h⟩ | ⟨i, -, -, -, h⟩ | ⟨i, -, -, -, h⟩ :=
    s.expire_cases x <;> rw [h]
  · exact ⟨rfl, rfl⟩
  · exact readTimeout_keeps hstate
  · exact ⟨rfl, rfl⟩
  · rw [discard_eq, State.freeEntry_eq, discardCounted_frame]
    exact ⟨rfl, rfl⟩
  · exact ⟨rfl, rfl⟩

theorem expiries_settled (xs : List Timer) {s : State} (hstart : TimersStart s)
    (hi : ∀ i : EntryNo, s.dt.entries[i].formed = true ∨ Quiet s.dt.entries[i]) (j : EntryNo) :
    Quiet (xs.foldl State.expire s).dt.entries[j] ∨
      (xs.foldl State.expire s).dt.entries[j] = s.dt.entries[j] ∧ ∀ x ∈ xs, ¬ Expired x j s.dt.entries[j] := by
  induction xs generalizing s with
  | nil => exact .inr ⟨rfl, nofun⟩
  | cons x xs ih =>
    have hsettled := expire_settled hstart x hi
    have hstart' : TimersStart (s.expire x) := by
      rw [TimersStart, (expire_keeps x s).2]
      exact hstart
    have hi' : ∀ i : EntryNo, (s.expire x).dt.entries[i].formed = true ∨ Quiet (s.expire x).dt.entries[i] := fun i => by
      obtain hquiet | ⟨hsame, -⟩ := hsettled i
      · exact .inr hquiet
      · rw [hsame]
        exact hi i
    rw [List.foldl_cons]
    obtain hquiet | ⟨hsame, hnone⟩ := ih hstart' hi'
    · exact .inl hquiet
    · obtain hquiet | ⟨hsame', hnone'⟩ := hsettled j
      · rw [hsame]
        exact .inl hquiet
      · rw [hsame'] at hnone
        exact .inr ⟨hsame.trans hsame', List.forall_mem_cons.2 ⟨hnone', hnone⟩⟩

/-- R188: behind the expiries of a tick no timer has reached its time. -/
theorem takeDue_noneDue {s : State} (hsettings : s.SettingsLegal) (hformed : s.EntriesFormed) : NoneDue s.takeDue := by
  obtain ⟨-, hdiscard, -, -, hreservation, -⟩ := hsettings
  have hstart : TimersStart s :=
    ⟨fun h => hdiscard (BitVec.eq_of_toNat_eq h), fun h => hreservation (BitVec.eq_of_toNat_eq h)⟩
  refine ⟨fun i => ?_, fun f fs hflights hup => ?_⟩
  · obtain hquiet | ⟨hsame, hnone⟩ := expiries_settled s.dueTimers hstart (fun i => .inl (hformed i)) i
    · exact hquiet
    · rw [State.takeDue, hsame]
      exact quiet_of_not_expired hnone
  · exact takeDue_head s hup f (by rw [hflights]; rfl)

theorem takeDue_of_noneDue {s : State} (h : NoneDue s) : s.takeDue = s := by
  obtain ⟨hentries, hhead⟩ := h
  rw [State.takeDue_of_entries hentries]
  refine ackTimeout_of_not_due fun ⟨hup, f, fs, hflights, hdue⟩ => ?_
  exact absurd hdue (Nat.not_le.2 (hhead f fs hflights hup))

theorem takeDue_ticks (s : State) : s.takeDue.ticks = s.ticks :=
  State.takeDue_induct (P := fun u => u.ticks = s.ticks) (fun x u h => (expire_keeps x u).1.trans h) rfl

theorem exec_timebaseTick {s : State} (hon : s.powerOn = false) : exec .timebaseTick s = .next s.takeDue.tick :=
  congrArg Host.Outcome.next (if_neg (Bool.eq_false_iff.1 hon))

/-- Settles O26: the expiries are those commands one after another, and the tick counts in the state they leave. -/
theorem tickTakesDueExpiriesAndCounts : Obligations.TickTakesDueExpiriesAndCounts := by
  intro s hon
  refine ⟨s.takeDue, _, ?_, takeDue_of_noneDue, takeDue_noneDue, exec_timebaseTick hon, ?_, fun i => ?_, State.tick_age _,
    rfl, rfl⟩
  · rw [dueExpiries_eq]
    exact runs_expiries s.dueTimers s
  · rw [State.tick_ticks, takeDue_ticks, BitVec.toNat_add]
    rfl
  · rw [State.tick_get]
    rfl

/-! ## Offers -/

/-- R80: the offers behind the first leave the entry that it may have reserved. -/
theorem offerAll_get_of_notMem (time : Nat) (is : List EntryNo) (p : List RequesterNo × Vector Entry 24) {j : EntryNo}
    (hj : j ∉ is) : (offerAll time is p).2[j] = p.2[j] := by
  induction is generalizing p with
  | nil => rfl
  | cons i is ih =>
    obtain ⟨hji, hj⟩ := List.ne_and_not_mem_of_not_mem_cons hj
    obtain ⟨w, es⟩ := p
    rw [offerAll_cons, ih _ hj]
    cases w with
    | nil => rfl
    | cons r rest => rw [offerEntry_head, set_get, if_neg hji]

theorem offerAll_waiting (time : Nat) (is : List EntryNo) (w : List RequesterNo) (es : Vector Entry 24) :
    (offerAll time is (w, es)).1 = w.drop is.length := by
  induction is generalizing w es with
  | nil => rfl
  | cons i is ih =>
    cases w with
    | nil => rw [offerAll_empty, List.drop_nil]
    | cons r rest => rw [offerAll_cons, offerEntry_head, ih, List.length_cons, List.drop_succ_cons]

/-- What an offer makes of an entry: reserved for a requester, or left for want of one. -/
def reservedFor (x : Option RequesterNo) (time : Nat) (e : Entry) : Entry :=
  x.elim e fun r => { e with reservedFor := some r, reservationTimer := some time }

/-- R80: the k-th entry offered is reserved for the k-th requester of the list, if there is one. -/
theorem offerAll_get (time : Nat) {is : List EntryNo} (hnodup : is.Nodup) (w : List RequesterNo) (es : Vector Entry 24)
    {k : Nat} {j : EntryNo} (hj : is[k]? = some j) :
    (offerAll time is (w, es)).2[j] = reservedFor w[k]? time es[j] := by
  induction is generalizing w es k with
  | nil => cases hj
  | cons i is ih =>
    obtain ⟨hi, hnodup⟩ := List.nodup_cons.1 hnodup
    cases w with
    | nil =>
      rw [offerAll_empty]
      rfl
    | cons r rest =>
      rw [offerAll_cons, offerEntry_head]
      cases k with
      | zero =>
        obtain rfl : i = j := Option.some.inj hj
        rw [offerAll_get_of_notMem _ _ _ hi, set_get, if_pos rfl]
        rfl
      | succ k =>
        rw [List.getElem?_cons_succ] at hj
        have hne : j ≠ i := fun heq => hi (heq ▸ List.mem_of_getElem? hj)
        rw [ih hnodup rest _ hj, set_get, if_neg hne, List.getElem?_cons_succ]

/-- Settles O31: by induction on the entries offered. -/
theorem offerReservesInListOrder : Obligations.OfferReservesInListOrder := fun time is w es hnodup =>
  ⟨offerAll_waiting time is w es, fun k h => by
    rw [offerAll_get time hnodup w es (List.getElem?_eq_getElem h)]
    split
    · next hk =>
      rw [List.getElem?_eq_getElem hk]
      rfl
    · next hk =>
      rw [List.getElem?_eq_none (Nat.not_lt.1 hk)]
      rfl,
    fun _ => offerAll_get_of_notMem time is (w, es)⟩

end Sys2Proof.TimerProofs

/-! # Proofs: the frame of a step, the refusals of the commands, the resets and the Fault Log -/

namespace Sys2Proof.FrameProofs

open Sys2Proof Sys2Proof.Machine Sys2Proof.Claims Sys2Proof.WindowCommitProofs Sys2Proof.CommandProofs
  Sys2Proof.OperatingStateProofs Sys2Proof.LogCommandProofs Sys2Proof.RequesterCommitProofs
  Sys2Proof.ResetProofs Sys2Proof.CapacityProofs

/-! ## The queue of commands -/

/-- Settles O1: a step on a queue that is not empty is the command at its front. -/
theorem stepRunsFrontCommand : Obligations.StepRunsFrontCommand := by
  unfold Obligations.StepRunsFrontCommand
  intro c rest s hpending
  rw [step, hpending]

/-! ## A record joins the log -/

theorem append_of_room {r : FaultRecord} {f : FaultUnit} (h : f.log.length < 16) :
    f.append r = { f with log := f.log ++ [r] }.settle := if_pos h

theorem append_of_full {r : FaultRecord} {f : FaultUnit} (h : ¬ f.log.length < 16) :
    f.append r = { f with overflow := true }.settle := if_neg h

theorem append_alert (r : FaultRecord) (f : FaultUnit) : (f.append r).alert = (f.append r).level := by
  unfold FaultUnit.append
  split <;> rfl

theorem level_iff (f : FaultUnit) :
    f.level = true ↔ (∃ x ∈ f.log, f.alertEnable.getLsbD x.kind.code = true) ∨
      (f.overflow = true ∧ f.alertEnable.getLsbD 0 = true) := by
  simp [FaultUnit.level]

/-- Settles O35: by the test for room, and the line by the level after the append. -/
theorem appendKeepsOrDropsRecord : Obligations.AppendKeepsOrDropsRecord := by
  unfold Obligations.AppendKeepsOrDropsRecord
  intro r f
  have hline : (f.append r).alert = true ↔
      (∃ x ∈ (f.append r).log, f.alertEnable.getLsbD x.kind.code = true) ∨
        ((f.append r).overflow = true ∧ f.alertEnable.getLsbD 0 = true) := by
    rw [append_alert, level_iff, FaultUnit.append_alertEnable]
  refine ⟨?_, ?_, FaultUnit.append_alertEnable r f, hline⟩
  all_goals
    by_cases hroom : f.log.length < 16
    · simp [append_of_room hroom, hroom]
    · simp [append_of_full hroom, hroom, Nat.le_of_not_lt hroom]

/-! ## The refusals of the commands -/

section Refused

variable {a c : Byte} {s : State}

theorem windowCommitAct_badArg (h : 12 ≤ a.toNat) : windowCommitAct a s = (.badArg, s) := by
  rw [windowCommitAct, numbered_eq_none.2 h]

theorem windowCommitAct_badWindow (harg : a.toNat < 12) (hon : s.wt.staging.enabled = true)
    (hlegal : ¬ LegalWindow s.wt.staging) : windowCommitAct a s = (.badWindow, s) := by
  have hfails : s.wt.staging.legal = false := Bool.eq_false_iff.2 (mt legal_iff_legalWindow.1 hlegal)
  have hnumber : numbered 12 a = some ⟨a.toNat, harg⟩ := numbered_eq_some.2 rfl
  simp [windowCommitAct, hnumber, hon, hfails]

theorem requesterCommitAct_badArg
    (h : 32 ≤ a.toNat ∨ s.rqt.staging.quota.toNat < 1 ∨ 24 < s.rqt.staging.quota.toNat) :
    requesterCommitAct a s = (.badArg, s) := by
  unfold requesterCommitAct
  split
  · rfl
  · next hnumber => rw [if_pos (h.resolve_left fun hlarge => by simp [numbered_eq_none.2 hlarge] at hnumber)]

theorem counterClearAct_badArg (h : 32 ≤ a.toNat) : counterClearAct a s = (.badArg, s) := by
  rw [counterClearAct, numbered_eq_none.2 h]

/-- R176: the act that a write of CMD with this code carries out. -/
def actOf (c a : Byte) : State → CmdOutcome × State :=
  match c.toNat with
  | 1 => windowCommitAct a
  | 2 => requesterCommitAct a
  | 3 => logPopAct
  | 4 => logClearAct
  | 5 => counterClearAct a
  | 6 => entryViewAct a
  | 7 => quiesceAct
  | 8 => resumeAct
  | 9 => pathResetAct
  | 10 => linkResetAct
  | _ => unnamedAct

theorem exec_unnamedCommandCode (d : DeviceAddr) (c a : Byte) (s : State) :
    exec (.unnamedCommandCode d c a) s =
      .next (if s.portTakes d then s.takeCommand c (actOf c a) else s) := rfl

theorem actOf_unnamed (h : c.toNat = 0 ∨ 10 < c.toNat) : actOf c a = unnamedAct := by
  unfold actOf
  split
  iterate 10 next => omega
  rfl

end Refused

/-- Settles O32: in LOADING by the test that every command makes first, and past it by the command's own act. -/
theorem refusedCommandsActOnNothing : Obligations.RefusedCommandsActOnNothing := by
  unfold Obligations.RefusedCommandsActOnNothing
  intro d a c s haddressed
  refine ⟨fun hloading => ?_, fun hloading => ?_⟩
  · have hrefused (code : Byte) (act : State → CmdOutcome × State) :
        (.next (if s.portTakes d then s.takeCommand code act else s) : Host.Outcome State Fault Refusal) =
          .next (withStatus code .state s) :=
      congrArg Host.Outcome.next (portCommand_loading code haddressed hloading)
    exact ⟨hrefused 1 _, hrefused 2 _, hrefused 3 _, hrefused 4 _, hrefused 5 _, hrefused 6 _, hrefused 7 _,
      hrefused 8 _, hrefused 9 _, hrefused 10 _, hrefused c _⟩
  · have hrefused {o : CmdOutcome} {act : State → CmdOutcome × State} (code : Byte) (hact : act s = (o, s)) :
        (.next (if s.portTakes d then s.takeCommand code act else s) : Host.Outcome State Fault Refusal) =
          .next (withStatus code o s) :=
      congrArg Host.Outcome.next (portCommand_taken code haddressed hloading hact)
    exact ⟨fun harg => hrefused 1 (windowCommitAct_badArg harg),
      fun harg hon hlegal => hrefused 1 (windowCommitAct_badWindow harg hon hlegal),
      fun harg => hrefused 2 (requesterCommitAct_badArg harg),
      fun hempty => hrefused 3 (logPopAct_refused hempty),
      fun harg => hrefused 5 (counterClearAct_badArg harg),
      fun harg => hrefused 6 (entryViewAct_badArg s harg),
      fun hop => hrefused 7 (quiesceAct_refused hop),
      fun hop => hrefused 8 (resumeAct_refused (.inr hop)),
      fun hlink => hrefused 10 (linkResetAct_refused hlink),
      fun hcode => (exec_unnamedCommandCode d c a s).trans
        (hrefused c (congrFun (actOf_unnamed hcode) s))⟩

/-! ## Power-on reset -/

/-- R174: a transaction of the port that does not address the part has no effect. -/
theorem port_unaddressed {d : DeviceAddr} {s t : State} (h : ¬ Addressed d s) :
    Host.Outcome.next (if s.portTakes d then t else s) = (.next s : Host.Outcome State Fault Refusal) := by
  rw [if_neg (mt portTakes_iff_addressed.1 h)]

theorem exec_mntStatusRead (d : DeviceAddr) (n : Nat) (s : State) :
    exec (.mntStatusRead d n) s = .next (if s.portTakes d ∧ 1 ≤ n then s.readStatus n else s) := rfl

/-- R184: the inputs from the Memory Link are ignored while the reset input is asserted. -/
theorem link_ignored {s t : State} (hon : s.powerOn = true) :
    Host.Outcome.next (if s.powerOn then s else t) = (.next s : Host.Outcome State Fault Refusal) := by
  rw [if_pos hon]

/-- Settles O44: each clause is a guard of the command that stands first in it. -/
theorem powerOnResetAndDeassertion : Obligations.PowerOnResetAndDeassertion := by
  unfold Obligations.PowerOnResetAndDeassertion
  intro s p
  refine ⟨rfl, fun hon => congrArg Host.Outcome.next (if_pos hon), fun hon => ?_, ?_⟩
  · exact ⟨fun c => link_ignored hon, fun st => link_ignored hon, fun n => link_ignored hon, link_ignored hon,
      congrArg Host.Outcome.next (if_pos (.inl hon))⟩
  · rintro d haddressed c a v n w rfl
    have hport {u : State} :
        (.next (if s.portTakes w.device then u else s) : Host.Outcome State Fault Refusal) = .next s :=
      port_unaddressed haddressed
    have hread : exec (.mntStatusRead w.device n) s = .next s := by
      rw [exec_mntStatusRead, if_neg fun h => haddressed (portTakes_iff_addressed.1 h.1)]
    simp only [List.forall_mem_cons]
    exact ⟨hport, hport, hport, hport, hport, hport, hport, hport, hport, hport, hport, hport, hread, hport, nofun⟩

/-! ## The state right after reset -/

theorem reset_not_live (i : EntryNo) : State.reset.dt.entries[i].live = false := by
  rw [reset_entry]
  rfl

theorem reset_heldCountsExact : State.reset.HeldCountsExact := fun r => by
  have hnone : State.reset.liveCount r = 0 := by
    simp [State.liveCount, -Fin.getElem_fin, reset_not_live]
  rw [reset_requester, hnone]
  rfl

/-- Settles O49: every entry is FREE without a reservation, every list is empty and the link is DOWN. -/
theorem resetMeetsEveryInvariant : Obligations.ResetMeetsEveryInvariant := by
  have hstate (i : EntryNo) : State.reset.dt.entries[i].state = .free := by rw [reset_entry]; rfl
  have hreserved (i : EntryNo) : State.reset.dt.entries[i].reservedFor = none := by rw [reset_entry]; rfl
  have htag (i : EntryNo) : State.reset.dt.entries[i].tag = none := by rw [reset_entry]; rfl
  have hread (i : EntryNo) : State.reset.dt.entries[i].readInFlight = false := by rw [reset_entry]; rfl
  have hwrite (i : EntryNo) : State.reset.dt.entries[i].writeInFlight = false := by rw [reset_entry]; rfl
  have hage : State.reset.AgeOrderExact :=
    ⟨List.nodup_nil, fun i => iff_of_false List.not_mem_nil (not_not_intro (hstate i))⟩
  have hkeys : State.reset.KeysDistinct := fun i j hi => absurd hi (by rw [reset_not_live]; nofun)
  have hformed : State.reset.EntriesFormed := fun i => by rw [reset_entry]; rfl
  have hexclusive : State.reset.ReservationsExclusive :=
    ⟨List.nodup_nil, fun i hi => absurd (hreserved i) hi, fun i j hi => absurd (hreserved i) hi, nofun⟩
  have hflights : State.reset.FlightsExact := fun i => by rw [hwrite]; rfl
  have htags : State.reset.TagsExact :=
    ⟨fun t i => by rw [reset_tag, htag]; exact ⟨nofun, nofun⟩, fun i => by rw [htag, hread]; rfl⟩
  have hlink : State.reset.LinkSettled := ⟨nofun, fun _ => ⟨reset_tag, rfl⟩⟩
  have hsyncs : State.reset.SyncCountsExact := fun i hi => absurd ((hstate i).symm.trans hi) nofun
  have hidle : State.reset.LoadingIdle :=
    ⟨fun _ => ⟨State.allFree_iff.2 hstate, rfl, rfl⟩, fun _ => ⟨rfl, rfl⟩⟩
  exact ⟨by decide, by decide, reset_windowsLegal, reset_settingsLegal, reset_heldCountsExact, hage, hkeys,
    hformed, hexclusive, ⟨List.Pairwise.nil, rfl⟩, hflights, htags, hlink, hsyncs, hidle, nofun⟩

end Sys2Proof.FrameProofs

/-! # Proofs: the writes of the register window and the read of MNT_STATUS -/

namespace Sys2Proof.RegisterProofs

open Sys2Proof Sys2Proof.Machine Sys2Proof.Claims Sys2Proof.WindowCommitProofs Sys2Proof.FrameProofs

/-! ## Numbers of joined words -/

theorem append_toNat {n m : Nat} (x : BitVec n) (y : BitVec m) : (x ++ y).toNat = x.toNat * 2 ^ m + y.toNat := by
  rw [BitVec.toNat_append, ← Nat.shiftLeft_add_eq_or_of_lt y.isLt, Nat.shiftLeft_eq]

theorem extract_toNat {n : Nat} (lo w : Nat) (x : BitVec n) :
    (x.extractLsb' lo w).toNat = x.toNat / 2 ^ lo % 2 ^ w := by
  rw [BitVec.extractLsb'_toNat, Nat.shiftRight_eq_div_pow]

/-- R174: the word of a write is its first four bytes, most significant first. -/
theorem be32_bytes (v : Word) (extra : List Byte) :
    be32 ([v.extractLsb' 24 8, v.extractLsb' 16 8, v.extractLsb' 8 8, v.extractLsb' 0 8] ++ extra) 0 = v := by
  apply BitVec.eq_of_toNat_eq
  simp only [be32, be16, byteOf, append_toNat, List.cons_append, List.getD_cons_zero, List.getD_cons_succ,
    extract_toNat]
  omega

/-! ## A write transaction -/

section Write

variable {w : PortWrite} {v : Word} {s : State}

theorem exec_registerWrite (haddressed : Addressed w.device s) :
    exec (.registerWrite w) s = .next (s.writeTransaction w) :=
  congrArg Host.Outcome.next (if_pos (portTakes_iff_addressed.2 haddressed))

theorem exec_registerWrite_short (haddressed : Addressed w.device s) (hshort : w.data.length < 4) :
    exec (.registerWrite w) s = .next s.accessError := by
  rw [exec_registerWrite haddressed, State.writeTransaction, if_pos hshort]

theorem exec_registerWrite_word {extra : List Byte} (haddressed : Addressed w.device s)
    (hdata : w.data =
      [v.extractLsb' 24 8, v.extractLsb' 16 8, v.extractLsb' 8 8, v.extractLsb' 0 8] ++ extra) :
    exec (.registerWrite w) s = .next (s.writeRegister w.address v) := by
  have hlong : ¬ w.data.length < 4 := by simp [hdata]
  rw [exec_registerWrite haddressed, State.writeTransaction, if_neg hlong, hdata, be32_bytes]

/-- The addresses of the registers that a write can change: CMD, the settings, the staging records and the selects. -/
def written : List Nat :=
  [0x0008, 0x0010, 0x0014, 0x0018, 0x001C, 0x0020, 0x0024, 0x0030, 0x0034, 0x0038, 0x003C, 0x0040, 0x0060,
    0x0064, 0x0070, 0x00A0]

theorem writeRegister_unwritten {a : BitVec 16} (h : a.toNat ∉ written) : s.writeRegister a v = s.accessError := by
  unfold State.writeRegister
  split
  iterate 16 next heq => exact absurd (by rw [heq]; decide) h
  rfl

end Write

/-! ## The settings -/

section Settings

variable {v : Word} {s : State}

theorem writeSetting_ranged {n : Nat} {x : BitVec n} {k : Nat} (f : Settings → Settings) (hx : x.toNat = k) :
    s.writeSetting (x != 0) f =
      if k = 0 then { s with mnt := { s.mnt with accessError := true } }
      else { s with mnt := { s.mnt with settings := f s.mnt.settings } } := by
  have hzero : (x != 0) = !decide (k = 0) := by
    rw [bne, ← hx, Bool.not_inj_iff, Bool.eq_iff_iff, beq_iff_eq, decide_eq_true_iff, ← BitVec.toNat_inj]
    rfl
  rw [State.writeSetting, hzero]
  by_cases hk : k = 0 <;> simp [hk, State.accessError]

theorem writePathCtrl_ranged :
    s.writePathCtrl v =
      if v.toNat % 32 = 0 ∨ 16 < v.toNat % 32 then { s with mnt := { s.mnt with accessError := true } }
      else
        { s with
          mnt := { s.mnt with settings := { s.mnt.settings with writeBurst := v.extractLsb' 0 5 } }
          wt := { s.wt with
                  missPolicy := if v.getLsbD 8 = true then .fill else .fault
                  missLogging := v.getLsbD 9 } } := by
  have hburst : (v.extractLsb' 0 5).toNat = v.toNat % 32 := by simp
  unfold State.writePathCtrl
  simp only [hburst]
  by_cases hrange : v.toNat % 32 = 0 ∨ 16 < v.toNat % 32
  · rw [if_pos hrange, if_neg (by omega)]
    rfl
  · rw [if_neg hrange, if_pos (by omega)]
    rfl

end Settings

/-- Settles O41: each register by the test of its own range. -/
theorem settingsWritesAreRangeTested : Obligations.SettingsWritesAreRangeTested := by
  unfold Obligations.SettingsWritesAreRangeTested
  intro w v s haddressed hdata
  have hword : exec (.registerWrite w) s = .next (s.writeRegister w.address v) :=
    exec_registerWrite_word (extra := []) haddressed hdata
  have htime : (v.extractLsb' 0 16).toNat = v.toNat % 65536 := by simp
  have hreservation : (v.extractLsb' 0 10).toNat = v.toNat % 1024 := by simp
  refine ⟨fun f hf => ?_, fun haddress => ?_, fun haddress => ?_⟩
  · rcases hf with ⟨haddress, rfl⟩ | ⟨haddress, rfl⟩ | ⟨haddress, rfl⟩ <;> rw [hword, haddress]
    · exact congrArg Host.Outcome.next
        (writeSetting_ranged (fun x => { x with discardTime := v.extractLsb' 0 16 }) htime)
    · exact congrArg Host.Outcome.next
        (writeSetting_ranged (fun x => { x with completionTimeout := v.extractLsb' 0 16 }) htime)
    · exact congrArg Host.Outcome.next
        (writeSetting_ranged (fun x => { x with ackTimeout := v.extractLsb' 0 16 }) htime)
  · rw [hword, haddress]
    exact congrArg Host.Outcome.next
      (writeSetting_ranged (fun x => { x with reservationTime := v.extractLsb' 0 10 }) hreservation)
  · rw [hword, haddress]
    exact congrArg Host.Outcome.next writePathCtrl_ranged

/-! ## The staging registers -/

theorem ofBits_code (b : BitVec 2) : (WriteMode.ofBits b).code = b.toNat := by
  revert b
  decide

/-- R26: the numbers that a write of WS_CTRL stages. -/
theorem writeCtrl_shows (v : Word) (w : Window) :
    (w.writeCtrl v).k.toNat = v.toNat / 4 % 64 ∧ (w.writeCtrl v).writeMode.code = v.toNat / 256 % 4 ∧
      (w.writeCtrl v).upBase.toNat = v.toNat / 4096 % 256 * 2 ^ 32 + w.upBase.toNat % 2 ^ 32 ∧
      (w.writeCtrl v).target.toNat = v.toNat / 2 ^ 20 * 2 ^ 32 + w.target.toNat % 2 ^ 32 := by
  simp only [Window.writeCtrl, ofBits_code, append_toNat, BitVec.toNat_setWidth, extract_toNat]
  omega

/-- Settles O42: each register by the fields it covers, after the tests of the length and of the address. -/
theorem stagingAndErrorWrites : Obligations.StagingAndErrorWrites := by
  unfold Obligations.StagingAndErrorWrites
  intro w v extra s haddressed
  refine ⟨exec_registerWrite_short haddressed, fun hdata => ?_⟩
  have hwrites {a : BitVec 16} {t : State} (ht : s.writeRegister a v = t) (haddress : w.address = a) :
      exec (.registerWrite w) s = .next t := by
    rw [exec_registerWrite_word haddressed hdata, haddress, ht]
  obtain ⟨hsize, hmode, hbase, htarget⟩ := writeCtrl_shows v s.wt.staging
  have hbaseLow : (s.wt.staging.upBase.extractLsb' 32 8 ++ v).toNat =
      s.wt.staging.upBase.toNat / 2 ^ 32 * 2 ^ 32 + v.toNat := by
    rw [append_toNat, extract_toNat]
    omega
  have htargetLow : (s.wt.staging.target.extractLsb' 32 12 ++ v).toNat =
      s.wt.staging.target.toNat / 2 ^ 32 * 2 ^ 32 + v.toNat := by
    rw [append_toNat, extract_toNat]
    omega
  exact ⟨hwrites rfl, fun h => ⟨_, hwrites rfl h, hbaseLow, rfl⟩, fun h => ⟨_, hwrites rfl h, htargetLow, rfl⟩,
    fun h => ⟨_, hwrites rfl h, rfl, hsize, hmode, rfl, rfl, hbase, htarget, rfl⟩,
    hwrites rfl, hwrites rfl, hwrites rfl, hwrites rfl, hwrites rfl,
    fun h => hwrites (writeRegister_unwritten h) rfl⟩

/-! ## ALERT_ENABLE and MNT_STATUS -/

theorem exec_alertEnableWrite {d : DeviceAddr} {s : State} (v : Word) (haddressed : Addressed d s) :
    exec (.alertEnableWrite d v) s = .next (s.writeAlertEnable v) :=
  congrArg Host.Outcome.next (if_pos (portTakes_iff_addressed.2 haddressed))

theorem exec_mntStatusRead_taken {d : DeviceAddr} {s : State} {n : Nat} (haddressed : Addressed d s)
    (hn : 1 ≤ n) : exec (.mntStatusRead d n) s = .next (s.readStatus n) := by
  rw [exec_mntStatusRead, if_pos ⟨portTakes_iff_addressed.2 haddressed, hn⟩]

theorem field_bit {lo w v b : Nat} (hb : b < 32) :
    (field lo w v)[b] = (decide (lo ≤ b ∧ b - lo < w) && v.testBit (b - lo)) := by
  rw [field, ← BitVec.getLsbD_eq_getElem, BitVec.getLsbD_ofNat, decide_eq_true hb, Bool.true_and,
    Nat.testBit_shiftLeft, Nat.testBit_mod_two_pow, Bool.decide_and, Bool.and_assoc]

/-- R175: ACCESS_ERROR is bit 4 of MNT_STATUS. -/
theorem mntStatus_accessError (s : State) : s.mntStatus.getLsbD 4 = s.mnt.accessError := by
  cases h : s.mnt.accessError <;> simp [State.mntStatus, flag, field_bit, h]

/-- Settles O40: both commands past the port's test of the address. -/
theorem alertEnableWriteAndStatusRead : Obligations.AlertEnableWriteAndStatusRead := by
  unfold Obligations.AlertEnableWriteAndStatusRead
  intro d v s haddressed
  refine ⟨⟨_, exec_alertEnableWrite v haddressed, fun b hb => ?_, rfl, rfl, rfl, rfl⟩, fun n hn =>
    ⟨_, s.mntStatus, exec_mntStatusRead_taken haddressed hn, rfl, rfl, mntStatus_accessError s, rfl⟩⟩
  have hbit : (v.setWidth 23).getLsbD b = v.getLsbD b := by
    rw [BitVec.getLsbD_setWidth, decide_eq_true hb, Bool.true_and]
  exact hbit

end Sys2Proof.RegisterProofs

/-! # Proofs: the configuration image -/

namespace Sys2Proof.ImageProofs

open Sys2Proof Sys2Proof.Machine Sys2Proof.Claims Sys2Proof.WindowCommitProofs Sys2Proof.RegisterProofs

/-! ## Bytes of a list as numbers -/

section Bytes

variable {bs : List Byte} {i : Nat}

theorem be16_toNat (bs : List Byte) (i : Nat) :
    (be16 bs i).toNat = (byteOf bs i).toNat * 2 ^ 8 + (byteOf bs (i + 1)).toNat := append_toNat ..

theorem be32_toNat (bs : List Byte) (i : Nat) :
    (be32 bs i).toNat = (be16 bs i).toNat * 2 ^ 16 + (be16 bs (i + 2)).toNat := append_toNat ..

theorem bytesAt_succ {n : Nat} (h : i + n < bs.length) :
    bytesAt i (n + 1) bs = 2 ^ 8 * bytesAt i n bs + (byteOf bs (i + n)).toNat := by
  have hget : (bs.drop i)[n]? = some bs[i + n] := by simp [h]
  have hbyte : byteOf bs (i + n) = bs[i + n] := by simp [byteOf, h]
  rw [bytesAt, List.take_add_one, hget, hbyte]
  exact List.foldl_append ..

theorem bytesAt_one (h : i < bs.length) : bytesAt i 1 bs = (byteOf bs i).toNat := by
  rw [bytesAt_succ h]
  simp [bytesAt]

theorem bytesAt_two (h : i + 1 < bs.length) : bytesAt i 2 bs = (be16 bs i).toNat := by
  rw [bytesAt_succ h, bytesAt_one (by omega), be16_toNat, Nat.mul_comm]

theorem bytesAt_three (h : i + 2 < bs.length) :
    bytesAt i 3 bs = (byteOf bs i ++ be16 bs (i + 1)).toNat := by
  rw [bytesAt_succ h, bytesAt_two (by omega)]
  simp only [be16_toNat, append_toNat]
  simp only [Nat.add_assoc, Nat.reduceAdd]
  omega

theorem bytesAt_four (h : i + 3 < bs.length) : bytesAt i 4 bs = (be32 bs i).toNat := by
  rw [bytesAt_succ h, bytesAt_three (by omega)]
  simp only [be32_toNat, be16_toNat, append_toNat]
  simp only [Nat.add_assoc, Nat.reduceAdd]
  omega

theorem bytesAt_five (h : i + 4 < bs.length) :
    bytesAt i 5 bs = (byteOf bs i ++ be32 bs (i + 1)).toNat := by
  rw [bytesAt_succ h, bytesAt_four (by omega)]
  simp only [be32_toNat, be16_toNat, append_toNat]
  simp only [Nat.add_assoc, Nat.reduceAdd]
  omega

theorem bytesAt_six (h : i + 5 < bs.length) :
    bytesAt i 6 bs = (be16 bs i).toNat * 2 ^ 32 + (be32 bs (i + 2)).toNat := by
  rw [bytesAt_succ h, bytesAt_five (by omega)]
  simp only [be32_toNat, be16_toNat, append_toNat]
  simp only [Nat.add_assoc, Nat.reduceAdd]
  omega

theorem bitAt_eq {b : Nat} (h : i < bs.length) : bitAt i b bs = (byteOf bs i).getLsbD b := by
  rw [bitAt, bytesAt_one h, BitVec.testBit_toNat]

end Bytes

/-! ## A record spelled by its bytes -/

theorem eq_ofBits_iff {m : WriteMode} {b : BitVec 2} : m = WriteMode.ofBits b ↔ writeModeNo m = b.toNat := by
  have heq : ∀ b : BitVec 2, m = WriteMode.ofBits b ↔ writeModeNo m = b.toNat := by
    cases m <;> decide
  exact heq b

theorem window_eq_iff {w v : Window} :
    w = v ↔ w.enabled = v.enabled ∧ w.writeMode = v.writeMode ∧ w.fetchMode = v.fetchMode ∧
      w.holdMode = v.holdMode ∧ w.k = v.k ∧ w.upBase = v.upBase ∧ w.target = v.target ∧ w.mask = v.mask := by
  cases w
  cases v
  simp only [Window.mk.injEq]
  tauto

theorem settings_eq_iff {t u : Settings} :
    t = u ↔ t.discardTime = u.discardTime ∧ t.completionTimeout = u.completionTimeout ∧
      t.ackTimeout = u.ackTimeout ∧ t.reservationTime = u.reservationTime ∧ t.writeBurst = u.writeBurst := by
  cases t
  cases u
  simp only [Settings.mk.injEq]

/-- R185: the number in a field that is wider than the word it stands for fits exactly when it is that word's. -/
theorem toNat_eq_iff_setWidth {n m : Nat} {x : BitVec n} {y : BitVec m} :
    x.toNat = y.toNat ↔ y.toNat < 2 ^ n ∧ x = y.setWidth n := by
  rw [← BitVec.toNat_inj, BitVec.toNat_setWidth]
  constructor
  · intro heq
    have hlt : y.toNat < 2 ^ n := heq ▸ x.isLt
    exact ⟨hlt, heq.trans (Nat.mod_eq_of_lt hlt).symm⟩
  · rintro ⟨hlt, heq⟩
    rw [heq, Nat.mod_eq_of_lt hlt]

section Record

variable {rec : List Byte} (hlength : rec.length = 20)
include hlength

theorem target_eq_iff {x : DownAddr} :
    x.toNat = bytesAt 9 6 rec ↔
      (be16 rec 9).extractLsb' 12 4 = 0#4 ∧ x = (be16 rec 9).extractLsb' 0 12 ++ be32 rec 11 := by
  have hx := x.isLt
  have hhigh := (be16 rec 9).isLt
  have hlow := (be32 rec 11).isLt
  have hnumber : bytesAt 9 6 rec = (be16 rec 9).toNat * 2 ^ 32 + (be32 rec 11).toNat := bytesAt_six (by omega)
  rw [hnumber, ← BitVec.toNat_inj, ← BitVec.toNat_inj (x := x), append_toNat, extract_toNat,
    extract_toNat, BitVec.toNat_ofNat]
  omega

/-- R185: the layout of a window record, by the model's reading of its fields. -/
theorem laidOutAs_window_iff {n : WindowNo} {w : Window} :
    LaidOutAs rec (.window n w) ↔
      (byteOf rec 0).toNat = 1 ∧ (byteOf rec 1).toNat = n.val ∧ (be16 rec 9).extractLsb' 12 4 = 0#4 ∧
        w = imageWindow rec ∧ (w.enabled = true → w.legal = true) := by
  have hmode : ((byteOf rec 2).extractLsb' 1 2).toNat = (byteOf rec 2).toNat / 2 % 4 := extract_toNat 1 2 _
  simp only [LaidOutAs, target_eq_iff hlength, window_eq_iff, imageWindow, eq_ofBits_iff, hmode,
    bytesAt_one (bs := rec) (i := 0) (by omega), bytesAt_one (bs := rec) (i := 1) (by omega),
    bytesAt_one (bs := rec) (i := 2) (by omega), bytesAt_one (bs := rec) (i := 3) (by omega),
    bytesAt_four (bs := rec) (i := 15) (by omega), bytesAt_five (bs := rec) (i := 4) (by omega),
    bitAt_eq (bs := rec) (i := 2) (by omega), BitVec.toNat_inj, FetchMode.ofBit, HoldMode.ofBit,
    legal_iff_legalWindow]
  tauto

theorem laidOutAs_requester_iff {r : RequesterNo} {en : Bool} {quota : Nat} :
    LaidOutAs rec (.requester r en quota) ↔
      (byteOf rec 0).toNat = 2 ∧ (byteOf rec 1).toNat = r.val ∧ en = (byteOf rec 2).getLsbD 0 ∧
        quota = (byteOf rec 3).toNat ∧ 1 ≤ quota ∧ quota ≤ 24 := by
  simp only [LaidOutAs, bytesAt_one (bs := rec) (i := 0) (by omega), bytesAt_one (bs := rec) (i := 1) (by omega),
    bytesAt_one (bs := rec) (i := 3) (by omega), bitAt_eq (bs := rec) (i := 2) (by omega)]

theorem alerts_eq_iff {a : BitVec 23} :
    (∀ b, b < 23 → a.getLsbD b = (bytesAt 12 3 rec).testBit b) ↔
      a = (byteOf rec 12 ++ be16 rec 13).setWidth 23 := by
  have hbit {b : Nat} (hb : b < 23) :
      ((byteOf rec 12 ++ be16 rec 13).setWidth 23).getLsbD b = (bytesAt 12 3 rec).testBit b := by
    rw [BitVec.getLsbD_setWidth, decide_eq_true hb, Bool.true_and, bytesAt_three (by omega), BitVec.testBit_toNat]
  constructor
  · exact fun h => BitVec.eq_of_getLsbD_eq fun b hb => (h b hb).trans (hbit hb).symm
  · rintro rfl b hb
    exact hbit hb

/-- The settings that a record of that type gives. -/
def imageSettings (bs : List Byte) : Settings :=
  { discardTime := be16 bs 2, completionTimeout := be16 bs 4, ackTimeout := be16 bs 6,
    reservationTime := (be16 bs 8).setWidth 10, writeBurst := (byteOf bs 10).setWidth 5 }

theorem laidOutAs_settings_iff {t : Settings} {p : MissPolicy} {l : Bool} {a : BitVec 23} :
    LaidOutAs rec (.settings t p l a) ↔
      (byteOf rec 0).toNat = 3 ∧
        (be16 rec 2 ≠ 0#16 ∧ be16 rec 4 ≠ 0#16 ∧ be16 rec 6 ≠ 0#16 ∧ 1 ≤ (be16 rec 8).toNat ∧
          (be16 rec 8).toNat ≤ 1023 ∧ 1 ≤ (byteOf rec 10).toNat ∧ (byteOf rec 10).toNat ≤ 16) ∧
        t = imageSettings rec ∧ p = MissPolicy.ofBit ((byteOf rec 11).getLsbD 0) ∧
        l = (byteOf rec 11).getLsbD 1 ∧ a = (byteOf rec 12 ++ be16 rec 13).setWidth 23 := by
  have hpos (x : BitVec 16) : x ≠ 0#16 ↔ 1 ≤ x.toNat := by
    rw [ne_eq, ← BitVec.toNat_inj, BitVec.toNat_ofNat, Nat.zero_mod]
    omega
  have htime : t.reservationTime.toNat = (be16 rec 8).toNat ↔ _ := toNat_eq_iff_setWidth
  have hburst : t.writeBurst.toNat = (byteOf rec 10).toNat ↔ _ := toNat_eq_iff_setWidth
  simp only [LaidOutAs, alerts_eq_iff hlength, hpos,
    bytesAt_one (bs := rec) (i := 0) (by omega), bytesAt_one (bs := rec) (i := 10) (by omega),
    bytesAt_two (bs := rec) (i := 2) (by omega), bytesAt_two (bs := rec) (i := 4) (by omega),
    bytesAt_two (bs := rec) (i := 6) (by omega), bytesAt_two (bs := rec) (i := 8) (by omega),
    bitAt_eq (bs := rec) (i := 11) (by omega), MissPolicy.ofBit]
  constructor
  · rintro ⟨htype, hd, hc, ha, hr, hb, ⟨hd1, hc1, ha1, hr1, hb1, hb16⟩, hset⟩
    obtain ⟨hfit, hreservation⟩ := htime.1 hr
    obtain ⟨-, hwrite⟩ := hburst.1 hb
    exact ⟨htype, ⟨hd ▸ hd1, hc ▸ hc1, ha ▸ ha1, hr ▸ hr1, by omega, hb ▸ hb1, hb ▸ hb16⟩,
      settings_eq_iff.2 ⟨BitVec.eq_of_toNat_eq hd, BitVec.eq_of_toNat_eq hc, BitVec.eq_of_toNat_eq ha,
        hreservation, hwrite⟩, hset⟩
  · rintro ⟨htype, ⟨hd1, hc1, ha1, hr1, hr1023, hb1, hb16⟩, ht, hset⟩
    obtain ⟨hd, hc, ha, hr, hb⟩ := settings_eq_iff.1 ht
    have hr := htime.2 ⟨by omega, hr⟩
    have hb := hburst.2 ⟨by omega, hb⟩
    exact ⟨htype, congrArg BitVec.toNat hd, congrArg BitVec.toNat hc, congrArg BitVec.toNat ha, hr, hb,
      ⟨hd ▸ hd1, hc ▸ hc1, ha ▸ ha1, by omega, by omega, by omega⟩, hset⟩

end Record

/-! ## The parser reads the layout -/

section Parse

variable {rec : List Byte}

theorem parseRecord_window (htype : (byteOf rec 0).toNat = 1) : parseRecord rec = parseWindow rec := by
  simp only [parseRecord, htype]

theorem parseRecord_requester (htype : (byteOf rec 0).toNat = 2) : parseRecord rec = parseRequester rec := by
  simp only [parseRecord, htype]

theorem parseRecord_settings (htype : (byteOf rec 0).toNat = 3) : parseRecord rec = parseSettings rec := by
  simp only [parseRecord, htype]

theorem parseWindow_eq_some {r : ImageRecord} :
    parseWindow rec = some r ↔ ∃ n : WindowNo, (byteOf rec 1).toNat = n.val ∧
      (be16 rec 9).extractLsb' 12 4 = 0#4 ∧
      ((imageWindow rec).enabled = true → (imageWindow rec).legal = true) ∧
      r = .window n (imageWindow rec) := by
  unfold parseWindow
  split
  · next hnumber =>
    have hiff (n : WindowNo) : (byteOf rec 1).toNat = n.val ↔ n = ⟨(byteOf rec 1).toNat, hnumber⟩ := by
      rw [Fin.ext_iff, eq_comm]
    have htests : ((imageWindow rec).enabled && !(imageWindow rec).legal) = true ↔
        ¬ ((imageWindow rec).enabled = true → (imageWindow rec).legal = true) := by simp
    simp only [hiff, exists_eq_left, htests]
    split_ifs with hbase hlegal
    · exact ⟨nofun, fun ⟨h, _⟩ => absurd h hbase⟩
    · exact ⟨fun h => ⟨not_not.1 hbase, hlegal, (Option.some.inj h).symm⟩,
        fun ⟨_, _, h⟩ => congrArg some h.symm⟩
    · exact ⟨nofun, fun ⟨_, h, _⟩ => absurd h hlegal⟩
  · next hnumber =>
    simp only [reduceCtorEq, false_iff]
    rintro ⟨n, hn, -⟩
    exact hnumber (hn ▸ n.isLt)

theorem parseRequester_eq_some {r : ImageRecord} :
    parseRequester rec = some r ↔ ∃ q : RequesterNo, (byteOf rec 1).toNat = q.val ∧
      (1 ≤ (byteOf rec 3).toNat ∧ (byteOf rec 3).toNat ≤ 24) ∧
      r = .requester q ((byteOf rec 2).getLsbD 0) (byteOf rec 3).toNat := by
  unfold parseRequester
  split
  · next hnumber =>
    have hiff (q : RequesterNo) : (byteOf rec 1).toNat = q.val ↔ q = ⟨(byteOf rec 1).toNat, hnumber⟩ := by
      rw [Fin.ext_iff, eq_comm]
    simp only [hiff, exists_eq_left]
    split_ifs with hquota
    · exact ⟨fun h => ⟨hquota, (Option.some.inj h).symm⟩, fun ⟨_, h⟩ => congrArg some h.symm⟩
    · exact ⟨nofun, fun ⟨h, _⟩ => absurd h hquota⟩
  · next hnumber =>
    simp only [reduceCtorEq, false_iff]
    rintro ⟨q, hq, -⟩
    exact hnumber (hq ▸ q.isLt)

theorem parseSettings_eq_some {r : ImageRecord} :
    parseSettings rec = some r ↔
      (be16 rec 2 ≠ 0#16 ∧ be16 rec 4 ≠ 0#16 ∧ be16 rec 6 ≠ 0#16 ∧ 1 ≤ (be16 rec 8).toNat ∧
        (be16 rec 8).toNat ≤ 1023 ∧ 1 ≤ (byteOf rec 10).toNat ∧ (byteOf rec 10).toNat ≤ 16) ∧
      r = .settings (imageSettings rec) (MissPolicy.ofBit ((byteOf rec 11).getLsbD 0))
        ((byteOf rec 11).getLsbD 1) ((byteOf rec 12 ++ be16 rec 13).setWidth 23) := by
  unfold parseSettings
  split_ifs with hrange
  · exact ⟨fun h => ⟨hrange, (Option.some.inj h).symm⟩, fun ⟨_, h⟩ => congrArg some h.symm⟩
  · exact ⟨nofun, fun ⟨h, _⟩ => absurd h hrange⟩

/-- R185: the record that the bytes of a record parse to is the one they spell. -/
theorem parseRecord_eq_some (hlength : rec.length = 20) {r : ImageRecord} :
    parseRecord rec = some r ↔ LaidOutAs rec r := by
  constructor
  · intro h
    unfold parseRecord at h
    split at h
    · next htype =>
      obtain ⟨n, hn, hbase, hlegal, rfl⟩ := parseWindow_eq_some.1 h
      exact (laidOutAs_window_iff hlength).2 ⟨htype, hn, hbase, rfl, hlegal⟩
    · next htype =>
      obtain ⟨q, hq, ⟨hlow, hhigh⟩, rfl⟩ := parseRequester_eq_some.1 h
      exact (laidOutAs_requester_iff hlength).2 ⟨htype, hq, rfl, rfl, hlow, hhigh⟩
    · next htype =>
      obtain ⟨hrange, rfl⟩ := parseSettings_eq_some.1 h
      exact (laidOutAs_settings_iff hlength).2 ⟨htype, hrange, rfl, rfl, rfl, rfl⟩
    · cases h
  · intro h
    cases r with
    | window n w =>
      obtain ⟨htype, hn, hbase, rfl, hlegal⟩ := (laidOutAs_window_iff hlength).1 h
      rw [parseRecord_window htype]
      exact parseWindow_eq_some.2 ⟨n, hn, hbase, hlegal, rfl⟩
    | requester q en quota =>
      obtain ⟨htype, hq, rfl, rfl, hlow, hhigh⟩ := (laidOutAs_requester_iff hlength).1 h
      rw [parseRecord_requester htype]
      exact parseRequester_eq_some.2 ⟨q, hq, ⟨hlow, hhigh⟩, rfl⟩
    | settings t p l a =>
      obtain ⟨htype, hrange, rfl, rfl, rfl, rfl⟩ := (laidOutAs_settings_iff hlength).1 h
      rw [parseRecord_settings htype]
      exact parseSettings_eq_some.2 ⟨hrange, rfl⟩

theorem parseRecord_eq_none (hlength : rec.length = 20) : parseRecord rec = none ↔ ¬ RecordPasses rec := by
  simp only [RecordPasses, ← parseRecord_eq_some hlength, ← Option.isSome_iff_exists, Option.not_isSome_iff_eq_none]

end Parse

/-! ## The outcome of a load -/

section Outcome

variable {bs : List Byte}

theorem announced_eq (h : 7 ≤ bs.length) : announced bs = recordCount bs := bytesAt_one (by omega)

/-- The signature is that of the first four bytes, most significant first. -/
theorem signature_iff (h : 7 ≤ bs.length) :
    bs.take 4 = [0x4D#8, 0x56#8, 0x1C#8, 0x47#8] ↔ be32 bs 0 = 0x4D561C47#32 := by
  obtain ⟨a, b, c, d, rest, rfl⟩ : ∃ a b c d rest, bs = a :: b :: c :: d :: rest := by
    match bs, h with
    | a :: b :: c :: d :: rest, _ => exact ⟨a, b, c, d, rest, rfl⟩
  simp only [List.take_succ_cons, List.take_zero, List.cons.injEq, and_true, ← BitVec.toNat_inj, be32_toNat,
    be16_toNat, byteOf, List.getD_cons_zero, List.getD_cons_succ, BitVec.toNat_ofNat]
  omega

theorem headerGood_iff :
    HeaderGood bs ↔ 7 ≤ bs.length ∧ be32 bs 0 = 0x4D561C47#32 ∧ recordCount bs ≤ 64 := by
  refine and_congr_right fun h => ?_
  rw [signature_iff h, announced_eq h]

theorem imageOutcome_header (h : ¬ HeaderGood bs) : imageOutcome bs = .bad none := by
  rw [headerGood_iff] at h
  unfold imageOutcome
  split_ifs with hlength hsignature hcount
  · rfl
  · rfl
  · rfl
  all_goals exact absurd ⟨Nat.le_of_not_lt hlength, not_not.1 hsignature, Nat.le_of_not_lt hcount⟩ h

/-- The records that the header announces, in image order. -/
def records (bs : List Byte) : List (List Byte) := (List.range (announced bs)).map fun j => recordNo (j + 1) bs

theorem recordNo_length {n : Nat} (hn : 1 ≤ n) (hlast : n ≤ announced bs) (hwhole : RecordsWhole bs) :
    (recordNo n bs).length = 20 := by
  unfold RecordsWhole at hwhole
  simp only [recordNo, List.length_take, List.length_drop]
  omega

theorem checkMatches_iff (h : 7 ≤ bs.length) : CheckMatches bs ↔ imageSum bs = (be16 bs 5).toNat := by
  rw [CheckMatches, imageSum, announced_eq h, bytesAt_two (by omega), List.map_append, List.sum_append]

/-- R185: the outcome that the parsed records give. -/
def outcomeOf : Except Nat (List ImageRecord) → LoadOutcome
  | .error n => .bad (some n)
  | .ok rs => .loaded rs

section Header

variable (hheader : HeaderGood bs)
include hheader

theorem imageOutcome_cut (hcut : ¬ RecordsWhole bs) :
    imageOutcome bs = .bad (some ((bs.length - 7) / 20 + 1)) := by
  obtain ⟨hlength, hsignature, hcount⟩ := headerGood_iff.1 hheader
  rw [RecordsWhole, announced_eq hlength, Nat.not_le] at hcut
  rw [imageOutcome, if_neg (Nat.not_lt.2 hlength), if_neg (not_not_intro hsignature),
    if_neg (Nat.not_lt.2 hcount), if_pos hcut]

variable (hwhole : RecordsWhole bs)
include hwhole

theorem imageOutcome_check (hcheck : ¬ CheckMatches bs) : imageOutcome bs = .bad none := by
  obtain ⟨hlength, hsignature, hcount⟩ := headerGood_iff.1 hheader
  rw [RecordsWhole, announced_eq hlength] at hwhole
  rw [imageOutcome, if_neg (Nat.not_lt.2 hlength), if_neg (not_not_intro hsignature),
    if_neg (Nat.not_lt.2 hcount), if_neg (Nat.not_lt.2 hwhole), if_pos (mt (checkMatches_iff hlength).2 hcheck)]

variable (hcheck : CheckMatches bs)
include hcheck

/-- R185: behind the tests of the header and of the check the records decide. -/
theorem imageOutcome_parsed {x : Except Nat (List ImageRecord)} (hparse : parseRecords 1 (records bs) = x) :
    imageOutcome bs = outcomeOf x := by
  obtain ⟨hlength, hsignature, hcount⟩ := headerGood_iff.1 hheader
  have hparse : parseRecords 1 ((List.range (recordCount bs)).map (recordBytes bs)) = x := by
    rw [← announced_eq hlength]
    exact hparse
  rw [RecordsWhole, announced_eq hlength] at hwhole
  rw [imageOutcome, if_neg (Nat.not_lt.2 hlength), if_neg (not_not_intro hsignature),
    if_neg (Nat.not_lt.2 hcount), if_neg (Nat.not_lt.2 hwhole),
    if_neg (not_not_intro ((checkMatches_iff hlength).1 hcheck)), hparse]
  cases x <;> rfl

theorem imageOutcome_failed {n : Nat} (hn : 1 ≤ n) (hlast : n ≤ announced bs)
    (hfails : ¬ RecordPasses (recordNo n bs)) (hfirst : ∀ m, 1 ≤ m → m < n → RecordPasses (recordNo m bs)) :
    imageOutcome bs = .bad (some n) := by
  obtain ⟨m, rfl⟩ : ∃ m, n = m + 1 := ⟨n - 1, by omega⟩
  obtain ⟨c, hc⟩ : ∃ c, announced bs = m + (c + 1) := ⟨announced bs - (m + 1), by omega⟩
  have hsplit : records bs = (List.range m).map (fun j => recordNo (j + 1) bs) ++
      recordNo (m + 1) bs :: (List.range c).map (fun j => recordNo (m + (j + 1) + 1) bs) := by
    rw [records, hc, List.range_add, List.map_append, List.range_succ_eq_map]
    simp
  have hpre : ∀ x ∈ (List.range m).map (fun j => recordNo (j + 1) bs), parseRecord x ≠ none := by
    rintro x hx
    obtain ⟨j, hj, rfl⟩ := List.mem_map.1 hx
    have hj := List.mem_range.1 hj
    rw [Ne, parseRecord_eq_none (recordNo_length (by omega) (by omega) hwhole)]
    exact not_not_intro (hfirst (j + 1) (by omega) (by omega))
  have hfailed : parseRecord (recordNo (m + 1) bs) = none :=
    (parseRecord_eq_none (recordNo_length hn hlast hwhole)).2 hfails
  have hparse : parseRecords 1 (records bs) = .error (m + 1) := by
    rw [hsplit, parseRecords_eq_error hpre hfailed, List.length_map, List.length_range, Nat.add_comm]
  exact imageOutcome_parsed hheader hwhole hcheck hparse

theorem imageOutcome_loaded {rs : List ImageRecord} (hlength : rs.length = announced bs)
    (hrecords : ∀ n (h : n < rs.length), LaidOutAs (recordNo (n + 1) bs) rs[n]) :
    imageOutcome bs = .loaded rs := by
  have hparse : parseRecords 1 (records bs) = .ok rs := by
    refine parseRecords_eq_ok.2 (List.ext_getElem (by simp [records, hlength]) fun n hn hn' => ?_)
    have hn : n < rs.length := by simpa using hn'
    have hrecord : parseRecord (recordNo (n + 1) bs) = some rs[n] :=
      (parseRecord_eq_some (recordNo_length (by omega) (by omega) hwhole)).2 (hrecords n hn)
    simpa [records] using hrecord
  exact imageOutcome_parsed hheader hwhole hcheck hparse

end Header

end Outcome

/-! ## The end of a load -/

section Ends

variable {s : State}

theorem exec_endOfLoad {e : Eeprom} (hon : s.powerOn = false) (hloading : s.mnt.opState = .loading) :
    exec (.endOfLoad e) s = .next (s.endLoad (loadOutcome e)) := by
  have hruns : ¬ (s.powerOn = true ∨ s.mnt.opState ≠ .loading) := by simp [hon, hloading]
  exact congrArg Host.Outcome.next (if_neg hruns)

theorem endLoad_bad (count : Option Nat) : s.endLoad (.bad count) = loadedBad count s := by
  have hflt : (s.flt.append { s.record .imageBad with count := count }).settle =
      s.flt.append { s.record .imageBad with count := count } := FaultUnit.append_settle ..
  simp only [State.endLoad, State.applyLoad, State.log, FaultUnit.appendAll_cons, FaultUnit.appendAll_nil, hflt]
  rfl

end Ends

/-- Settles O46: by the cases of the outcome in their order. -/
theorem endOfLoadWithoutGoodImage : Obligations.EndOfLoadWithoutGoodImage := by
  unfold Obligations.EndOfLoadWithoutGoodImage
  intro s hon hloading
  have hbad {bs : List Byte} {count : Option Nat} (h : imageOutcome bs = .bad count) :
      exec (.endOfLoad (.answers bs)) s = .next (loadedBad count s) := by
    rw [exec_endOfLoad hon hloading, loadOutcome, h, endLoad_bad]
  refine ⟨⟨_, exec_endOfLoad hon hloading, rfl, rfl, rfl⟩, fun bs => ⟨fun h => hbad (imageOutcome_header h),
    fun hheader => ⟨fun n hn hlast hlow hhigh => ?_, fun hwhole h => hbad (imageOutcome_check hheader hwhole h),
      fun hwhole hcheck n hn hlast hfails hfirst =>
        hbad (imageOutcome_failed hheader hwhole hcheck hn hlast hfails hfirst)⟩⟩⟩
  have hcut : ¬ RecordsWhole bs := by
    unfold RecordsWhole
    omega
  have hcount : (bs.length - 7) / 20 + 1 = n := by omega
  exact hbad (hcount ▸ imageOutcome_cut hheader hcut)

/-! ## The records applied -/

section Applied

variable {r : ImageRecord} {s : State}

theorem applyRecord_window {n : WindowNo} (h : ∀ w, r ≠ .window n w) :
    (s.applyRecord r).wt.windows[n] = s.wt.windows[n] := by
  cases r with
  | window m w =>
    have hne : n ≠ m := fun heq => h w (heq ▸ rfl)
    exact (set_get ..).trans (if_neg hne)
  | requester => rfl
  | settings => rfl

/-- R186: a record of another requester leaves this one, and each of its own leaves the fields that no record has. -/
theorem applyRecord_requester {q : RequesterNo} (f : Requester → Requester)
    (h : ∀ e quota, r = .requester q e quota → ∀ x : Requester, f { x with enabled := e, quota := quota } = f x) :
    f (s.applyRecord r).rqt.requesters[q] = f s.rqt.requesters[q] := by
  cases r with
  | window => rfl
  | requester p e quota =>
    have hget := RequesterTable.update_get p q (fun x => { x with enabled := e, quota := quota }) s.rqt
    refine (congrArg f hget).trans ?_
    split
    · next heq => exact h e quota (heq ▸ rfl) _
    · rfl
  | settings => rfl

/-- What a settings record gives. -/
def globals (s : State) : Settings × MissPolicy × Bool × BitVec 23 :=
  (s.mnt.settings, s.wt.missPolicy, s.wt.missLogging, s.flt.alertEnable)

theorem applyRecord_globals (h : ∀ g p l a, r ≠ .settings g p l a) : globals (s.applyRecord r) = globals s := by
  cases r with
  | window => rfl
  | requester => rfl
  | settings g p l a => exact absurd rfl (h g p l a)

end Applied

/-- The part with the records applied, at the end of the load. -/
def ended (u : State) : State :=
  { u with mnt := { u.mnt with loadStatus := .loaded, opState := .active }, flt := u.flt.settle }

theorem endLoad_loaded (rs : List ImageRecord) (s : State) :
    s.endLoad (.loaded rs) = ended (rs.foldl State.applyRecord s) := rfl

theorem ended_frame {s u : State}
    (h : u = { s with
               wt := u.wt, rqt := u.rqt
               mnt := { s.mnt with settings := u.mnt.settings }
               flt := { s.flt with alertEnable := u.flt.alertEnable } }) :
    (ended u).mnt =
        { s.mnt with opState := .active, loadStatus := .loaded, settings := (ended u).mnt.settings } ∧
      (ended u).flt = { s.flt with alertEnable := (ended u).flt.alertEnable, alert := (ended u).flt.level } ∧
      ended u = { s with wt := (ended u).wt, rqt := (ended u).rqt, mnt := (ended u).mnt, flt := (ended u).flt } := by
  obtain ⟨wt, rqt, settings, alerts, rfl⟩ : ∃ wt rqt settings alerts,
      u = { s with wt, rqt, mnt := { s.mnt with settings }, flt := { s.flt with alertEnable := alerts } } :=
    ⟨_, _, _, _, h⟩
  exact ⟨rfl, rfl, rfl⟩

section Configured

variable (rs : List ImageRecord) (s : State)

theorem windows_kept {n : WindowNo} (h : ∀ w, ImageRecord.window n w ∉ rs) :
    (rs.foldl State.applyRecord s).wt.windows[n] = s.wt.windows[n] :=
  State.applyRecords_keep (fun u => u.wt.windows[n]) rs s
    fun _ hr _ => applyRecord_window fun w heq => h w (heq ▸ hr)

theorem windows_last {n : WindowNo} {w : Window} (pre post : List ImageRecord)
    (h : ∀ w', ImageRecord.window n w' ∉ post) :
    ((pre ++ .window n w :: post).foldl State.applyRecord s).wt.windows[n] = w :=
  (State.applyRecords_last (fun u => u.wt.windows[n]) pre post (.window n w) s
    fun _ hr _ => applyRecord_window fun w heq => h w (heq ▸ hr)).trans ((set_get ..).trans (if_pos rfl))

theorem requesters_kept {r : RequesterNo} (h : ∀ e q, ImageRecord.requester r e q ∉ rs) :
    (rs.foldl State.applyRecord s).rqt.requesters[r] = s.rqt.requesters[r] :=
  State.applyRecords_keep (fun u => u.rqt.requesters[r]) rs s
    fun x hx _ => applyRecord_requester id fun e q heq => absurd (heq ▸ hx) (h e q)

/-- R186: the last record of a requester decides its two fields; the others stand as before the load. -/
theorem requesters_last {r : RequesterNo} {e : Bool} {q : Nat} (pre post : List ImageRecord)
    (h : ∀ e' q', ImageRecord.requester r e' q' ∉ post) :
    ((pre ++ .requester r e q :: post).foldl State.applyRecord s).rqt.requesters[r] =
      { s.rqt.requesters[r] with enabled := e, quota := q } := by
  have hlast := State.applyRecords_last (fun u => u.rqt.requesters[r]) pre post (.requester r e q) s
    fun x hx _ => applyRecord_requester id fun e' q' heq => absurd (heq ▸ hx) (h e' q')
  have hget := RequesterTable.update_get r r (fun x => { x with enabled := e, quota := q })
    (pre.foldl State.applyRecord s).rqt
  have hbefore := State.applyRecords_keep (fun u => { u.rqt.requesters[r] with enabled := e, quota := q }) pre s
    fun x _ _ => applyRecord_requester (fun x => { x with enabled := e, quota := q }) fun _ _ _ _ => rfl
  exact hlast.trans ((hget.trans (if_pos rfl)).trans hbefore)

theorem globals_kept (h : ∀ g p l a, ImageRecord.settings g p l a ∉ rs) :
    globals (rs.foldl State.applyRecord s) = globals s :=
  State.applyRecords_keep globals rs s fun _ hr _ => applyRecord_globals fun g p l a heq => h g p l a (heq ▸ hr)

theorem globals_last {g : Settings} {p : MissPolicy} {l : Bool} {a : BitVec 23} (pre post : List ImageRecord)
    (h : ∀ g' p' l' a', ImageRecord.settings g' p' l' a' ∉ post) :
    globals ((pre ++ .settings g p l a :: post).foldl State.applyRecord s) = (g, p, l, a) :=
  State.applyRecords_last globals pre post (.settings g p l a) s
    fun _ hr _ => applyRecord_globals fun g' p' l' a' heq => h g' p' l' a' (heq ▸ hr)

end Configured

/-- Settles O47: the image parses to the records it spells, and of those the last that names a field decides it. -/
theorem loadedImageIsApplied : Obligations.LoadedImageIsApplied := by
  unfold Obligations.LoadedImageIsApplied
  intro s bs rs hon hloading hheader hwhole hcheck hlength hrecords
  have hexec : exec (.endOfLoad (.answers bs)) s = .next (ended (rs.foldl State.applyRecord s)) := by
    rw [exec_endOfLoad hon hloading, loadOutcome, imageOutcome_loaded hheader hwhole hcheck hlength hrecords,
      endLoad_loaded]
  obtain ⟨hstaging, hquota, hframe⟩ := State.applyRecords_frame rs s
  obtain ⟨hmnt, hflt, hrest⟩ := ended_frame hframe
  refine ⟨_, hexec, hmnt, hflt, fun n => windows_kept rs s, ?_, fun r => requesters_kept rs s, ?_, fun h => ?_, ?_,
    hstaging, hquota, hrest⟩
  · rintro n w pre post rfl h
    exact windows_last s pre post h
  · rintro r e q pre post rfl h
    exact requesters_last s pre post h
  · have hkept := globals_kept rs s h
    simp only [globals, Prod.mk.injEq] at hkept
    exact hkept
  · rintro g p l a pre post rfl h
    have hlast := globals_last s (g := g) (p := p) (l := l) (a := a) pre post h
    simp only [globals, Prod.mk.injEq] at hlast
    exact hlast

end Sys2Proof.ImageProofs

/-! # Proofs: the words of the register window -/

namespace Sys2Proof.Machine

/-! ## Words built of fields, with the side conditions on a position in one -/

theorem Below.and_field {x : Word} {b n : Nat} (hx : Below b n x) (lo w v : Nat) (h : b ≤ lo ∧ lo + w ≤ 32) :
    Below (lo + w) (n + 2 ^ lo * (v % 2 ^ w)) (x ||| field lo w v) := hx.or_field lo w v h.1 h.2

theorem Below.and_flag {x : Word} {b n : Nat} (hx : Below b n x) (lo : Nat) (on : Bool) (h : b ≤ lo ∧ lo < 32) :
    Below (lo + 1) (n + on.toNat * 2 ^ lo) (x ||| flag lo on) := hx.or_flag lo on h.1 h.2

end Sys2Proof.Machine

namespace Sys2Proof.ViewProofs

open Sys2Proof Sys2Proof.Machine Sys2Proof.Claims Sys2Proof.RegisterProofs

/-! ## The encodings -/

theorem opState_field (o : OpState) : o.code % 2 ^ 2 = opStateNo o := by cases o <;> rfl

theorem loadStatus_field (l : LoadStatus) : l.code % 2 ^ 2 = loadStatusNo l := by cases l <;> rfl

theorem outcome_field (o : CmdOutcome) : o.code % 2 ^ 2 = outcomeNo o := by cases o <;> rfl

theorem writeMode_field (m : WriteMode) : m.code % 2 ^ 2 = writeModeNo m := by cases m <;> rfl

theorem linkState_field (l : LinkState) : l.code % 2 ^ 2 = linkStateNo l := by cases l <;> rfl

theorem entryState_field (e : EntryState) : e.code % 2 ^ 3 = entryStateNo e := by cases e <;> rfl

theorem faultKind_field (k : FaultKind) : k.code % 2 ^ 5 = faultKindNo k := by cases k <;> rfl

theorem entryKind_field (k : Option EntryKind) : (k.map EntryKind.code).getD 0 % 2 ^ 2 = entryKindNo k := by
  rcases k with _ | k
  · rfl
  · cases k <;> rfl

theorem keyForm_field (k : Option MatchKey) : (k.map MatchKey.code).getD 0 % 2 ^ 3 = keyFormNo k := by
  rcases k with _ | k
  · rfl
  · cases k <;> rfl

theorem status_field (x : Option Status) : (x.map Status.code).getD 0 % 2 ^ 4 = statusNo x := by
  rcases x with _ | x
  · rfl
  · cases x <;> rfl

theorem fetchMode_field (lo : Nat) (m : FetchMode) : 2 ^ lo * (m.code % 2 ^ 1) = markAt lo (m = .line) := by
  cases m <;> simp [FetchMode.code, markAt]

theorem holdMode_field (lo : Nat) (m : HoldMode) : 2 ^ lo * (m.code % 2 ^ 1) = markAt lo (m = .asFetched) := by
  cases m <;> simp [HoldMode.code, markAt]

theorem hold_field (lo : Nat) (m : Option HoldMode) :
    2 ^ lo * ((m.map HoldMode.code).getD 0 % 2 ^ 1) = markAt lo (m = some .asFetched) := by
  rcases m with _ | m
  · simp [markAt]
  · cases m <;> simp [HoldMode.code, markAt]

theorem missPolicy_field (lo : Nat) (p : MissPolicy) : 2 ^ lo * (p.code % 2 ^ 1) = markAt lo (p = .fill) := by
  cases p <;> simp [MissPolicy.code, markAt]

theorem markAt_zero (on : Bool) : markAt 0 on = on.toNat := Nat.mul_one _

/-! ## Numbers that fit their fields -/

theorem fin_field {n : Nat} (w : Nat) (i : Fin n) (h : n ≤ 2 ^ w) : i.val % 2 ^ w = i.val :=
  Nat.mod_eq_of_lt (i.isLt.trans_le h)

theorem number_field {n : Nat} (w : Nat) (x : Option (Fin n)) (h : n ≤ 2 ^ w) :
    (x.map Fin.val).getD 0 % 2 ^ w = numberOr0 x := by
  rcases x with _ | i
  · exact Nat.zero_mod _
  · exact fin_field w i h

theorem high_field {n : Nat} (w : Nat) (a : BitVec n) (h : n ≤ 32 + w) :
    (a.toNat >>> 32) % 2 ^ w = a.toNat / 2 ^ 32 := by
  rw [Nat.shiftRight_eq_div_pow]
  have hlt : a.toNat < 2 ^ (32 + w) := a.isLt.trans_le (Nat.pow_le_pow_right (by decide) h)
  exact Nat.mod_eq_of_lt (Nat.div_lt_of_lt_mul (pow_add 2 32 w ▸ hlt))

theorem address_high_field {n : Nat} (w : Nat) (x : Option (BitVec n)) (h : n ≤ 32 + w) :
    (((x.map BitVec.toNat).getD 0) >>> 32) % 2 ^ w = addressOr0 x / 2 ^ 32 := by
  rcases x with _ | a
  · simp [addressOr0]
  · exact high_field w a h

theorem setWidth_toNat {n : Nat} (x : BitVec n) (h : n ≤ 32) : (x.setWidth 32).toNat = x.toNat :=
  BitVec.toNat_setWidth_of_le h

theorem low_toNat {n : Nat} (x : BitVec n) : (x.extractLsb' 0 32).toNat = x.toNat % 2 ^ 32 := by
  rw [extract_toNat, pow_zero, Nat.div_one]

theorem field_zero_toNat (w v : Nat) (h : w ≤ 32) : (field 0 w v).toNat = v % 2 ^ w := (below_field v h).1

/-! ## The port's own registers -/

theorem statusRegistersRight (s : State) : StatusRegistersRight s := by
  have hdevice : s.mnt.deviceAddress.toNat = 0x58 + s.mnt.straps.toNat := by
    unfold Maintenance.deviceAddress
    bv_omega
  have hstatus :=
    below_field s.mnt.opState.code (w := 2) (by decide)
      |>.and_field 2 2 s.mnt.loadStatus.code (by decide)
      |>.and_flag 4 s.mnt.accessError (by decide)
      |>.and_field 8 6 s.waiting.length (by decide)
      |>.and_field 16 7 s.mnt.deviceAddress.toNat (by decide)
  have hcommand :=
    below_field s.mnt.cmdOutcome.code (w := 2) (by decide)
      |>.and_field 8 8 s.mnt.cmdCode.toNat (by decide)
  refine ⟨rfl, hstatus.1.trans ?_, hcommand.1.trans ?_⟩
  · rw [opState_field, loadStatus_field, BitVec.toNat_mod_cancel, hdevice]
    rfl
  · rw [outcome_field, BitVec.toNat_mod_cancel]

/-! ## Windows -/

theorem showsWindow (w : Window) :
    ShowsWindow w w.ctrlWord (w.upBase.extractLsb' 0 32) (w.target.extractLsb' 0 32) := by
  have hsize : viewSize w.k < 64 := by
    unfold viewSize
    split
    · assumption
    · exact (Config.wideWindowSize w.k).isLt
  have hnamed : w.k.toNat < 64 → viewSize w.k = w.k.toNat := fun h => if_pos h
  have hword :=
    below_flag w.enabled
      |>.and_field 2 6 (viewSize w.k) (by decide)
      |>.and_field 8 2 w.writeMode.code (by decide)
      |>.and_field 10 1 w.fetchMode.code (by decide)
      |>.and_field 11 1 w.holdMode.code (by decide)
      |>.and_field 12 8 (w.upBase.toNat >>> 32) (by decide)
      |>.and_field 20 12 (w.target.toNat >>> 32) (by decide)
  refine ⟨⟨viewSize w.k, hsize, hnamed, hword.1.trans ?_⟩, low_toNat _, low_toNat _⟩
  rw [Nat.mod_eq_of_lt (show viewSize w.k < 2 ^ 6 from hsize), writeMode_field, fetchMode_field, holdMode_field,
    high_field 8 _ (by decide), high_field 12 _ (by decide), markAt_zero]

theorem viewedWindow_eq {s : State} {n : WindowNo} (h : s.mnt.wvSelect.toNat = n.val) :
    s.viewedWindow = some s.wt.windows[n] := by
  rw [State.viewedWindow, numbered_eq_some.2 h]
  rfl

theorem windowRegisters {s : State} {x : Option Window} (h : s.viewedWindow = x) :
    s.readRegister 0x0044#16 = (x.map Window.ctrlWord).getD 0 ∧
      s.readRegister 0x0048#16 = (x.map fun w => w.upBase.extractLsb' 0 32).getD 0 ∧
      s.readRegister 0x004C#16 = (x.map fun w => w.target.extractLsb' 0 32).getD 0 ∧
      s.readRegister 0x0050#16 = (x.map Window.mask).getD 0 := by
  subst h
  exact ⟨rfl, rfl, rfl, rfl⟩

theorem windowViewRight (s : State) : WindowViewRight s := by
  refine ⟨fun n hn => ?_, fun hnone => ?_⟩
  · obtain ⟨hctrl, hbase, htarget, hmask⟩ := windowRegisters (viewedWindow_eq hn)
    rw [hctrl, hbase, htarget]
    exact ⟨showsWindow _, hmask⟩
  · have hview : s.viewedWindow = none := by rw [State.viewedWindow, numbered_eq_none.2 hnone, Option.map_none]
    obtain ⟨hctrl, hbase, htarget, hmask⟩ := windowRegisters hview
    simp only [List.forall_mem_cons]
    exact ⟨hctrl, hbase, htarget, hmask, nofun⟩

/-! ## The registers that can be written -/

theorem writtenRegistersReadBack (s : State) : WrittenRegistersReadBack s := by
  have hpath :=
    below_field s.mnt.settings.writeBurst.toNat (w := 5) (by decide)
      |>.and_field 8 1 s.wt.missPolicy.code (by decide)
      |>.and_flag 9 s.wt.missLogging (by decide)
  have hstaged :=
    below_flag s.rqt.staging.enabled
      |>.and_field 8 8 s.rqt.staging.quota.toNat (by decide)
  refine ⟨setWidth_toNat _ (by decide), setWidth_toNat _ (by decide), setWidth_toNat _ (by decide),
    setWidth_toNat _ (by decide), hpath.1.trans ?_, setWidth_toNat _ (by decide), showsWindow _, rfl,
    setWidth_toNat _ (by decide), hstaged.1.trans ?_, setWidth_toNat _ (by decide), setWidth_toNat _ (by decide),
    setWidth_toNat _ (by decide)⟩
  · rw [BitVec.toNat_mod_cancel, missPolicy_field]
    rfl
  · rw [BitVec.toNat_mod_cancel, markAt_zero]

/-! ## The requester view -/

section Requesters

variable {s : State} {r : RequesterNo}

theorem requesterWord_of_viewed (h : s.viewedRequester = some r) :
    s.requesterWord = flag 0 s.rqt.requesters[r].enabled ||| field 3 5 s.rqt.requesters[r].quota
      ||| field 8 5 s.rqt.requesters[r].held ||| field 16 8 s.rqt.requesters[r].refusals.toNat
      ||| field 24 8 s.rqt.requesters[r].discards.toNat := by
  simp only [State.requesterWord, h]

/-- What RV_RESERVE shows as the reservation: its entry and its remaining ticks, or 31 for none. -/
def reservationShown (s : State) (r : RequesterNo) : Nat × Nat :=
  (s.dt.reservedEntry r).elim (31, 0) fun i => (i.val, s.dt.entries[i].reservationTimer.getD 0)

theorem reservationWord_of_viewed (h : s.viewedRequester = some r) :
    s.reservationWord = field 0 5 (reservationShown s r).1 ||| field 8 10 (reservationShown s r).2
      ||| field 24 6 (waitingPosition r s.waiting) := by
  cases hentry : s.dt.reservedEntry r <;> simp only [State.reservationWord, reservationShown, h, hentry] <;> rfl

theorem reservationShown_none (h : ∀ i : EntryNo, ¬ ReservedFree s r i) : reservationShown s r = (31, 0) := by
  have hnone : s.dt.reservedEntry r = none := by
    cases hfound : s.dt.reservedEntry r with
    | none => rfl
    | some j => exact absurd (DeferralTable.reservedEntry_eq_some.1 hfound).1 (h j)
  rw [reservationShown, hnone]
  rfl

theorem reservationShown_some {i : EntryNo} (h : ReservedFree s r i)
    (hfirst : ∀ j : EntryNo, j < i → ¬ ReservedFree s r j) :
    reservationShown s r = (i.val, s.dt.entries[i].reservationTimer.getD 0) := by
  rw [reservationShown, DeferralTable.reservedEntry_eq_some.2 ⟨h, hfirst⟩]
  rfl

theorem reservationShown_fits (s : State) (r : RequesterNo) : (reservationShown s r).1 < 2 ^ 5 := by
  unfold reservationShown
  cases s.dt.reservedEntry r with
  | none => exact (by decide : 31 < 2 ^ 5)
  | some i => exact i.isLt.trans (by decide)

end Requesters

theorem requesterViewRight (s : State) : RequesterViewRight s := by
  refine ⟨fun r hr => ?_, fun hnone => ?_⟩
  · have hview : s.viewedRequester = some r := numbered_eq_some.2 hr
    have hrecord :=
      below_flag s.rqt.requesters[r].enabled
        |>.and_field 3 5 s.rqt.requesters[r].quota (by decide)
        |>.and_field 8 5 s.rqt.requesters[r].held (by decide)
        |>.and_field 16 8 s.rqt.requesters[r].refusals.toNat (by decide)
        |>.and_field 24 8 s.rqt.requesters[r].discards.toNat (by decide)
    have hreserve :=
      below_field (reservationShown s r).1 (w := 5) (by decide)
        |>.and_field 8 10 (reservationShown s r).2 (by decide)
        |>.and_field 24 6 (waitingPosition r s.waiting) (by decide)
    refine ⟨?_, _, _, _, (congrArg BitVec.toNat (reservationWord_of_viewed hview)).trans hreserve.1,
      fun hfree => ?_, fun i hi hfirst => ?_, fun hout => ?_, fun pre post hsplit hpre => ?_⟩
    · rw [← markAt_zero, BitVec.toNat_mod_cancel, BitVec.toNat_mod_cancel] at hrecord
      exact (congrArg BitVec.toNat (requesterWord_of_viewed hview)).trans hrecord.1
    · rw [reservationShown_none hfree]
      exact ⟨rfl, rfl⟩
    · rw [Nat.mod_eq_of_lt (reservationShown_fits s r), reservationShown_some hi hfirst]
      exact ⟨rfl, rfl⟩
    · rw [waitingPosition_of_notMem hout]
      rfl
    · rw [hsplit, waitingPosition_append post hpre]
      rfl
  · have hview : s.viewedRequester = none := numbered_eq_none.2 hnone
    have hrecord : s.requesterWord = 0 := by simp only [State.requesterWord, hview]
    have hreserve : s.reservationWord = 0 := by simp only [State.reservationWord, hview]
    exact ⟨hrecord, hreserve⟩

/-! ## The tag view -/

theorem tagRegisters {s : State} {x : Tag} (h : s.viewedTag = some x) :
    (x = .free → s.tagWord = 0 ∧ s.tagAddress = 0) ∧
      (∀ i, x = .bound i → s.tagWord = (field 0 2 1 ||| field 4 5 i.val) ∧ s.tagAddress = 0) ∧
      ∀ r a i, x = .quarantined r a i →
        s.tagWord = (field 0 2 2 ||| field 4 5 i.val ||| field 10 5 r.val ||| field 16 12 (a.toNat >>> 32)) ∧
          s.tagAddress = field 0 32 a.toNat := by
  refine ⟨?_, ?_, ?_⟩
  · rintro rfl
    simp only [State.tagWord, State.tagAddress, h, and_self]
  · rintro i rfl
    simp only [State.tagWord, State.tagAddress, h, and_self]
  · rintro r a i rfl
    simp only [State.tagWord, State.tagAddress, h, and_self]

theorem tagViewRight (s : State) : TagViewRight s := by
  refine ⟨fun t ht => ?_, fun hnone => ?_⟩
  · have hview : s.viewedTag = some s.mli.tags[t] := by
      rw [State.viewedTag, numbered_eq_some.2 ht, Option.map_some]
    obtain ⟨hfree, hbound, hquarantined⟩ := tagRegisters hview
    refine ⟨hfree, fun i hi => ?_, fun r a i hi => ?_⟩
    · have hword :=
        below_field 1 (w := 2) (by decide)
          |>.and_field 4 5 i.val (by decide)
      rw [fin_field 5 i (by decide)] at hword
      exact ⟨(congrArg BitVec.toNat (hbound i hi).1).trans hword.1, (hbound i hi).2⟩
    · have hword :=
        below_field 2 (w := 2) (by decide)
          |>.and_field 4 5 i.val (by decide)
          |>.and_field 10 5 r.val (by decide)
          |>.and_field 16 12 (a.toNat >>> 32) (by decide)
      rw [fin_field 5 i (by decide), fin_field 5 r (by decide), high_field 12 a (by decide)] at hword
      exact ⟨(congrArg BitVec.toNat (hquarantined r a i hi).1).trans hword.1,
        (congrArg BitVec.toNat (hquarantined r a i hi).2).trans (field_zero_toNat 32 a.toNat le_rfl)⟩
  · have hview : s.viewedTag = none := by rw [State.viewedTag, numbered_eq_none.2 hnone, Option.map_none]
    have hword : s.tagWord = 0 := by simp only [State.tagWord, hview]
    have haddress : s.tagAddress = 0 := by simp only [State.tagAddress, hview]
    exact ⟨hword, haddress⟩

end Sys2Proof.ViewProofs

/-! # Proofs: the views of the queue, the link, the log and the snapshot -/

namespace Sys2Proof.ViewProofs

open Sys2Proof Sys2Proof.Machine Sys2Proof.Claims Sys2Proof.RegisterProofs

/-! ## The queue view -/

theorem writeState_field (x : WriteState) : x.code % 2 ^ 2 = if x = .queued then 1 else 2 := by cases x <;> rfl

theorem issuedCount_eq (q : List PostedWrite) : issuedCount q = (q.filter fun x => x.state = .issued).length := by
  rw [issuedCount, List.countP_eq_length_filter]
  congr 1

theorem queueViewRight (s : State) : QueueViewRight s := by
  refine ⟨fun hempty => ?_, fun w ws hqueue => ?_⟩
  · have hword : s.queueWord = 0 := by simp only [State.queueWord, hempty]; rfl
    have haddress : s.queueHeadAddress = 0 := by simp only [State.queueHeadAddress, hempty]; rfl
    have hlow : field 0 32 s.queueHeadAddress = 0 := by rw [haddress]; rfl
    have hhigh : (field 0 12 (s.queueHeadAddress >>> 32)
        ||| field 16 7 ((s.pwq.head?.map PostedWrite.length).getD 0)) = 0 := by rw [haddress, hempty]; rfl
    simp only [List.forall_mem_cons]
    exact ⟨hword, hlow, hhigh, nofun⟩
  · have hhead : s.pwq.head? = some w := by rw [hqueue, List.head?_cons]
    have haddress : s.queueHeadAddress = w.address.toNat := by simp only [State.queueHeadAddress, hhead]; rfl
    have hword : s.queueWord = (field 0 6 s.pwq.length ||| field 8 5 (issuedCount s.pwq)
        ||| field 16 2 w.state.code ||| field 20 5 w.requester.val) := by
      simp only [State.queueWord, hhead]; rfl
    have hlow : s.readRegister 0x0084#16 = field 0 32 w.address.toNat := congrArg (field 0 32) haddress
    have hhigh : s.readRegister 0x0088#16 = (field 0 12 (w.address.toNat >>> 32) ||| field 16 7 w.length) := by
      rw [← haddress, show w.length = (s.pwq.head?.map PostedWrite.length).getD 0 by rw [hhead]; rfl]
      rfl
    have hcounts :=
      below_field s.pwq.length (w := 6) (by decide)
        |>.and_field 8 5 (issuedCount s.pwq) (by decide)
        |>.and_field 16 2 w.state.code (by decide)
        |>.and_field 20 5 w.requester.val (by decide)
    have hupper :=
      below_field (w.address.toNat >>> 32) (w := 12) (by decide)
        |>.and_field 16 7 w.length (by decide)
    rw [issuedCount_eq, writeState_field, fin_field 5 w.requester (by decide), ← issuedCount_eq] at hcounts
    rw [high_field 12 _ (by decide)] at hupper
    refine ⟨(congrArg BitVec.toNat hword).trans (hcounts.1.trans ?_), ?_,
      (congrArg BitVec.toNat hhigh).trans hupper.1⟩
    · rw [issuedCount_eq]
      rfl
    · rw [hlow, field_zero_toNat 32 _ le_rfl]

/-! ## The link view -/

theorem countTags_eq (s : State) (code : Nat) : s.mli.countTags code = tagsIn code s := by
  unfold MemoryLink.countTags tagsIn
  refine List.countP_congr fun t _ => ?_
  rw [BEq.comm]
  cases s.mli.tags[t] <;> exact .rfl

theorem countTags_field (s : State) (code : Nat) : s.mli.countTags code % 2 ^ 6 = tagsIn code s := by
  rw [← countTags_eq]
  have hle : s.mli.countTags code ≤ (List.finRange 32).length := List.countP_le_length
  rw [List.length_finRange] at hle
  omega

/-- The number of the NP_WRITE entry at the head of the In-Flight Write List, 0 for a posted head and for none. -/
def headEntry : Option FlightRef → Nat
  | some (.npWrite i) => i.val
  | some .posted => 0
  | none => 0

theorem headEntry_fits (x : Option FlightRef) : headEntry x < 2 ^ 5 := by
  rcases x with _ | (_ | i)
  · decide
  · decide
  · exact i.isLt.trans (by decide)

theorem linkWord_toNat {s : State} {x : Option FlightRef} (h : s.mli.flights.head?.map FlightMember.ref = x) :
    s.linkWord.toNat =
      linkStateNo s.mli.state + 2 ^ 2 * cut 5 s.mli.credits + 2 ^ 7 * cut 5 s.streak
        + 2 ^ 12 * cut 5 s.mli.flights.length + 2 ^ 17 * (x.map FlightRef.code).getD 0 + 2 ^ 19 * headEntry x := by
  have hkind : (s.mli.flights.head?.map fun f => f.ref.code).getD 0 = (x.map FlightRef.code).getD 0 := by
    rw [← h, Option.map_map]
    rfl
  have hkind_fits : (x.map FlightRef.code).getD 0 < 2 ^ 2 := by
    rcases x with _ | (_ | i)
    · decide
    · decide
    · exact (by decide : 2 < 2 ^ 2)
  have hword : s.linkWord = (field 0 2 s.mli.state.code ||| field 2 5 s.mli.credits ||| field 7 5 s.streak
      ||| field 12 5 s.mli.flights.length ||| field 17 2 ((x.map FlightRef.code).getD 0)
      ||| field 19 5 (headEntry x)) := by
    rw [State.linkWord, hkind, h]
    rcases x with _ | (_ | i) <;> rfl
  have hfields :=
    below_field s.mli.state.code (w := 2) (by decide)
      |>.and_field 2 5 s.mli.credits (by decide)
      |>.and_field 7 5 s.streak (by decide)
      |>.and_field 12 5 s.mli.flights.length (by decide)
      |>.and_field 17 2 ((x.map FlightRef.code).getD 0) (by decide)
      |>.and_field 19 5 (headEntry x) (by decide)
  rw [hword, hfields.1, linkState_field, Nat.mod_eq_of_lt hkind_fits, Nat.mod_eq_of_lt (headEntry_fits x)]
  rfl

theorem linkViewRight (s : State) : LinkViewRight s := by
  refine ⟨?_, fun hempty => ⟨?_, ?_⟩, fun f fs hflights =>
    ⟨?_, f.ref.code, headEntry (some f.ref), ?_⟩⟩
  · have htags :=
      below_field (s.mli.countTags 0) (w := 6) (by decide)
        |>.and_field 8 6 (s.mli.countTags 1) (by decide)
        |>.and_field 16 6 (s.mli.countTags 2) (by decide)
    rw [countTags_field, countTags_field, countTags_field] at htags
    exact htags.1
  · have hword := linkWord_toNat (s := s) (x := none) (by rw [hempty]; rfl)
    rw [hempty] at hword
    exact hword
  · have hticks : s.headTicksWord = 0 := by simp only [State.headTicksWord, hempty]
    exact hticks
  · have hticks : s.headTicksWord = (field 0 16 (f.ackTimeout - f.elapsed) ||| flag 16 true) := by
      simp only [State.headTicksWord, hflights]
    have hfields :=
      below_field (f.ackTimeout - f.elapsed) (w := 16) (by decide)
        |>.and_flag 16 true (by decide)
    exact (congrArg BitVec.toNat hticks).trans (hfields.1.trans (by rw [Bool.toNat_true, Nat.one_mul]; rfl))
  · refine ⟨linkWord_toNat (s := s) (x := some f.ref) (by rw [hflights]; rfl), ?_, ?_⟩
    · intro href
      rw [href]
      exact ⟨rfl, rfl⟩
    · intro i href
      rw [href]
      exact ⟨rfl, rfl⟩

/-! ## The log view -/

section Log

variable {s : State}

/-- LOG_STATUS without the head record's fields. -/
theorem logStatus_empty (h : s.flt.log = []) :
    s.logStatus.toNat = markAt 5 s.flt.overflow + markAt 6 s.flt.alert := by
  have hword : s.logStatus = (field 0 5 0 ||| flag 5 s.flt.overflow ||| flag 6 s.flt.alert) := by
    simp only [State.logStatus, h, List.length_nil]
    exact BitVec.or_zero
  have hfields :=
    below_field 0 (w := 5) (by decide)
      |>.and_flag 5 s.flt.overflow (by decide)
      |>.and_flag 6 s.flt.alert (by decide)
  rw [hword, hfields.1, Nat.zero_mod, Nat.zero_add]
  rfl

theorem bitsNat_presence (r : FaultRecord) :
    2 ^ 13 * (bitsNat r.presence % 2 ^ 8) =
      markAt 13 r.requester.isSome + markAt 14 r.window.isSome + markAt 15 r.up.isSome + markAt 16 r.down.isSome
        + markAt 17 r.entry.isSome + markAt 18 r.tag.isSome + markAt 19 r.status.isSome + markAt 20 r.count.isSome := by
  have hbit (b : Bool) : b.toNat ≤ 1 := Bool.toNat_le b
  have h0 := hbit r.requester.isSome
  have h1 := hbit r.window.isSome
  have h2 := hbit r.up.isSome
  have h3 := hbit r.down.isSome
  have h4 := hbit r.entry.isSome
  have h5 := hbit r.tag.isSome
  have h6 := hbit r.status.isSome
  have h7 := hbit r.count.isSome
  simp only [FaultRecord.presence, bitsNat, markAt]
  omega

theorem logStatus_head {x : FaultRecord} {xs : List FaultRecord} (h : s.flt.log = x :: xs) :
    s.logStatus.toNat =
      cut 5 s.flt.log.length + markAt 5 s.flt.overflow + markAt 6 s.flt.alert
        + 2 ^ 8 * faultKindNo x.kind + markAt 13 x.requester.isSome + markAt 14 x.window.isSome
        + markAt 15 x.up.isSome + markAt 16 x.down.isSome + markAt 17 x.entry.isSome
        + markAt 18 x.tag.isSome + markAt 19 x.status.isSome + markAt 20 x.count.isSome
        + 2 ^ 24 * (addressOr0 x.up / 2 ^ 32) := by
  have hword : s.logStatus = (field 0 5 s.flt.log.length ||| flag 5 s.flt.overflow ||| flag 6 s.flt.alert
      ||| field 8 5 x.kind.code ||| field 13 8 (bitsNat x.presence)
      ||| field 24 8 ((x.up.map BitVec.toNat).getD 0 >>> 32)) := by
    simp only [State.logStatus, h, BitVec.or_assoc]
  have hfields :=
    below_field s.flt.log.length (w := 5) (by decide)
      |>.and_flag 5 s.flt.overflow (by decide)
      |>.and_flag 6 s.flt.alert (by decide)
      |>.and_field 8 5 x.kind.code (by decide)
      |>.and_field 13 8 (bitsNat x.presence) (by decide)
      |>.and_field 24 8 ((x.up.map BitVec.toNat).getD 0 >>> 32) (by decide)
  rw [hword, hfields.1, faultKind_field, bitsNat_presence, address_high_field 8 _ (by decide)]
  simp only [cut, markAt, Nat.add_assoc]

theorem logFields_head {x : FaultRecord} {xs : List FaultRecord} (h : s.flt.log = x :: xs) :
    s.logFields.toNat =
      numberOr0 x.requester + 2 ^ 5 * numberOr0 x.window + 2 ^ 9 * numberOr0 x.entry
        + 2 ^ 14 * numberOr0 x.tag + 2 ^ 19 * statusNo x.status + 2 ^ 23 * cut 7 (x.count.getD 0) := by
  have hword : s.logFields = (field 0 5 ((x.requester.map Fin.val).getD 0)
      ||| field 5 4 ((x.window.map Fin.val).getD 0) ||| field 9 5 ((x.entry.map Fin.val).getD 0)
      ||| field 14 5 ((x.tag.map Fin.val).getD 0) ||| field 19 4 ((x.status.map Status.code).getD 0)
      ||| field 23 7 (x.count.getD 0)) := by
    simp only [State.logFields, h]
  have hfields :=
    below_field ((x.requester.map Fin.val).getD 0) (w := 5) (by decide)
      |>.and_field 5 4 ((x.window.map Fin.val).getD 0) (by decide)
      |>.and_field 9 5 ((x.entry.map Fin.val).getD 0) (by decide)
      |>.and_field 14 5 ((x.tag.map Fin.val).getD 0) (by decide)
      |>.and_field 19 4 ((x.status.map Status.code).getD 0) (by decide)
      |>.and_field 23 7 (x.count.getD 0) (by decide)
  rw [hword, hfields.1, number_field 5 _ (by decide), number_field 4 _ (by decide), number_field 5 _ (by decide),
    number_field 5 _ (by decide), status_field]
  rfl

theorem logAddress_head {x : FaultRecord} {xs : List FaultRecord} (f : FaultRecord → Option Nat)
    (h : s.flt.log = x :: xs) : s.logAddress f = (f x).getD 0 := by
  rw [State.logAddress, h]
  rfl

theorem logAddress_empty (f : FaultRecord → Option Nat) (h : s.flt.log = []) : s.logAddress f = 0 := by
  rw [State.logAddress, h]
  rfl

theorem logRegisters (s : State) :
    s.readRegister 0x00B4#16 = (s.flt.log.head?.map FaultRecord.time).getD 0 ∧
      s.readRegister 0x00BC#16 = field 0 32 (s.logAddress fun r => r.up.map BitVec.toNat) ∧
      s.readRegister 0x00C0#16 = field 0 32 (s.logAddress fun r => r.down.map BitVec.toNat) ∧
      s.readRegister 0x00C4#16 = field 0 12 (s.logAddress (fun r => r.down.map BitVec.toNat) >>> 32) :=
  ⟨rfl, rfl, rfl, rfl⟩

end Log

theorem logViewRight (s : State) : LogViewRight s := by
  obtain ⟨htime, hup, hdown, hhigh⟩ := logRegisters s
  refine ⟨fun hempty => ⟨logStatus_empty hempty, ?_⟩, fun x xs hlog => ?_⟩
  · have hfields : s.logFields = 0 := by simp only [State.logFields, hempty]
    simp only [List.forall_mem_cons]
    rw [htime, hup, hdown, hhigh, logAddress_empty _ hempty, logAddress_empty _ hempty, hempty]
    exact ⟨rfl, hfields, rfl, rfl, rfl, nofun⟩
  · have hstamp : (s.flt.log.head?.map FaultRecord.time).getD 0 = x.time := by
      rw [hlog]
      rfl
    rw [htime, hstamp, hup, hdown, hhigh, logAddress_head _ hlog, logAddress_head _ hlog,
      field_zero_toNat 32 _ le_rfl, field_zero_toNat 32 _ le_rfl, field_zero_toNat 12 _ (by decide),
      address_high_field 12 _ (by decide)]
    exact ⟨logStatus_head hlog, rfl, logFields_head hlog, rfl, rfl, rfl⟩

end Sys2Proof.ViewProofs

/-! # Proofs: the words of the snapshot, and every register of the window -/

namespace Sys2Proof.ViewProofs

open Sys2Proof Sys2Proof.Machine Sys2Proof.Claims Sys2Proof.RegisterProofs

/-! ## The data words -/

theorem joined_byte (b : Nat → Byte) {k : Nat} (hk : k < 4) :
    (b 3 ++ b 2 ++ b 1 ++ b 0).extractLsb' (8 * k) 8 = b k := by
  apply BitVec.eq_of_toNat_eq
  have h0 := (b 0).isLt
  have h1 := (b 1).isLt
  have h2 := (b 2).isLt
  have h3 := (b 3).isLt
  rw [extract_toNat, append_toNat, append_toNat, append_toNat]
  interval_cases k <;> omega

theorem lineByte_eq (e : Entry) (k : Nat) : e.lineByte k = lineByteOf e k := by
  unfold Entry.lineByte lineByteOf Entry.spanLength
  cases e.span with
  | none => exact if_neg (by simp)
  | some sp => rfl

theorem dataWord_byte {v : Snapshot} {w k : Nat} (hw : w < 16) (hk : k < 4) :
    (v.word w).extractLsb' (8 * k) 8 = lineByteOf v.entry (4 * w + k) := by
  have hword : v.word w = v.entry.lineByte (4 * w + 3) ++ v.entry.lineByte (4 * w + 2)
      ++ v.entry.lineByte (4 * w + 1) ++ v.entry.lineByte (4 * w + 0) := by
    unfold Snapshot.word
    exact if_pos hw
  rw [hword, joined_byte (fun j => v.entry.lineByte (4 * w + j)) hk, lineByte_eq]

/-! ## The fields of the other words -/

section Fields

variable (e : Entry)

theorem keyAddress_eq : e.key.bind MatchKey.address = upOf e := by
  unfold upOf
  rcases e.key with _ | (_ | _ | _ | _) <;> rfl

theorem keyLength_eq : (e.key.bind MatchKey.length).getD 0 = keyLength e.key := by
  rcases e.key with _ | (_ | _ | _ | _) <;> rfl

theorem lineAddress_eq :
    (e.line.map fun l => (downByte l 0).toNat).getD 0 = addressOr0 (e.line.map fun l => l ++ 0#6) := by
  cases e.line <;> rfl

theorem spanOffset_eq : (e.span.map fun sp => sp.offset.toNat).getD 0 = addressOr0 (e.span.map Span.offset) := by
  cases e.span <;> rfl

theorem spanOffset_field : addressOr0 (e.span.map Span.offset) % 2 ^ 6 = addressOr0 (e.span.map Span.offset) := by
  cases e.span with
  | none => rfl
  | some sp => exact BitVec.toNat_mod_cancel sp.offset

theorem runningTimer_field : e.runningTimer.1 % 2 ^ 2 = e.runningTimer.1 := by
  unfold Entry.runningTimer
  split <;> rfl

/-- The encoding of the running timer, and the ticks it has left. -/
theorem runningTimer_shows :
    (e.completionTimer.isSome → e.runningTimer.1 = 1) ∧
      (e.completionTimer = none → e.discardTimer.isSome → e.runningTimer.1 = 2) ∧
      (e.completionTimer = none → e.discardTimer = none → e.reservationTimer.isSome → e.runningTimer.1 = 3) ∧
      (e.completionTimer = none → e.discardTimer = none → e.reservationTimer = none → e.runningTimer.1 = 0) ∧
      e.runningTimer.2 = ((e.completionTimer.or e.discardTimer).or e.reservationTimer).getD 0 := by
  unfold Entry.runningTimer
  cases e.completionTimer <;> cases e.discardTimer <;> cases e.reservationTimer <;> simp

theorem presence_eq : e.presence = presenceOf e := by
  have hdecide (k : EntryKind) : (e.kind == some k) = decide (e.kind = some k) := by
    rw [Bool.eq_iff_iff, beq_iff_eq, decide_eq_true_iff]
  simp only [Entry.presence, presenceOf, hdecide, List.replicate_succ, List.replicate_zero, List.cons_append,
    List.nil_append]

end Fields

/-! ## The words of the entry's record -/

section Words

variable (v : Snapshot)

theorem word16_toNat :
    (v.word 16).toNat =
      v.number.val + 2 ^ 5 * entryStateNo v.entry.state + 2 ^ 8 * entryKindNo v.entry.kind
        + 2 ^ 10 * numberOr0 v.entry.requester + 2 ^ 15 * numberOr0 v.entry.window
        + markAt 19 (v.entry.hold = some .asFetched) + 2 ^ 20 * statusNo v.entry.result
        + 2 ^ 24 * cut 2 v.entry.refetch + markAt 26 v.entry.stale + markAt 27 v.entry.limit
        + markAt 28 v.entry.failure := by
  have hfields :=
    below_field v.number.val (w := 5) (by decide)
      |>.and_field 5 3 v.entry.state.code (by decide)
      |>.and_field 8 2 ((v.entry.kind.map EntryKind.code).getD 0) (by decide)
      |>.and_field 10 5 ((v.entry.requester.map Fin.val).getD 0) (by decide)
      |>.and_field 15 4 ((v.entry.window.map Fin.val).getD 0) (by decide)
      |>.and_field 19 1 ((v.entry.hold.map HoldMode.code).getD 0) (by decide)
      |>.and_field 20 4 ((v.entry.result.map Status.code).getD 0) (by decide)
      |>.and_field 24 2 v.entry.refetch (by decide)
      |>.and_flag 26 v.entry.stale (by decide)
      |>.and_flag 27 v.entry.limit (by decide)
      |>.and_flag 28 v.entry.failure (by decide)
  refine Eq.trans hfields.1 ?_
  rw [fin_field 5 v.number (by decide), entryState_field, entryKind_field, number_field 5 _ (by decide),
    number_field 4 _ (by decide), hold_field, status_field]
  rfl

theorem word17_toNat :
    (v.word 17).toNat =
      cut 6 (v.entry.pending.getD 0) + 2 ^ 8 * numberOr0 v.entry.tag + 2 ^ 13 * cut 5 v.agePosition
        + 2 ^ 18 * numberOr0 v.entry.reservedFor + 2 ^ 24 * v.entry.runningTimer.1 := by
  have hfields :=
    below_field (v.entry.pending.getD 0) (w := 6) (by decide)
      |>.and_field 8 5 ((v.entry.tag.map Fin.val).getD 0) (by decide)
      |>.and_field 13 5 v.agePosition (by decide)
      |>.and_field 18 5 ((v.entry.reservedFor.map Fin.val).getD 0) (by decide)
      |>.and_field 24 2 v.entry.runningTimer.1 (by decide)
  refine Eq.trans hfields.1 ?_
  rw [number_field 5 _ (by decide), number_field 5 _ (by decide), runningTimer_field]
  rfl

theorem word18_toNat :
    (v.word 18).toNat =
      cut 16 (((v.entry.completionTimer.or v.entry.discardTimer).or v.entry.reservationTimer).getD 0)
        + 2 ^ 16 * addressOr0 (v.entry.span.map Span.offset)
        + 2 ^ 22 * cut 7 ((v.entry.span.map Span.length).getD 0) + 2 ^ 29 * keyFormNo v.entry.key := by
  obtain ⟨-, -, -, -, hticks⟩ := runningTimer_shows v.entry
  have hfields :=
    below_field v.entry.runningTimer.2 (w := 16) (by decide)
      |>.and_field 16 6 ((v.entry.span.map fun sp => sp.offset.toNat).getD 0) (by decide)
      |>.and_field 22 7 v.entry.spanLength (by decide)
      |>.and_field 29 3 ((v.entry.key.map MatchKey.code).getD 0) (by decide)
  refine Eq.trans hfields.1 ?_
  rw [hticks, spanOffset_eq, spanOffset_field, keyForm_field]
  rfl

theorem word19_toNat : (v.word 19).toNat = addressOr0 (upOf v.entry) % 2 ^ 32 := by
  have hword : v.word 19 = field 0 32 (((v.entry.key.bind MatchKey.address).map BitVec.toNat).getD 0) := rfl
  rw [hword, keyAddress_eq, field_zero_toNat 32 _ le_rfl]
  rfl

theorem word20_toNat :
    (v.word 20).toNat =
      addressOr0 (upOf v.entry) / 2 ^ 32 + 2 ^ 8 * cut 7 (keyLength v.entry.key)
        + 2 ^ 20 * (addressOr0 (v.entry.line.map fun l => l ++ 0#6) / 2 ^ 32) := by
  have hfields :=
    below_field (((v.entry.key.bind MatchKey.address).map BitVec.toNat).getD 0 >>> 32) (w := 8) (by decide)
      |>.and_field 8 7 ((v.entry.key.bind MatchKey.length).getD 0) (by decide)
      |>.and_field 20 12 ((v.entry.line.map fun l => (downByte l 0).toNat).getD 0 >>> 32) (by decide)
  refine Eq.trans hfields.1 ?_
  have hline : (addressOr0 (v.entry.line.map fun l => l ++ 0#6) >>> 32) % 2 ^ 12 =
      addressOr0 (v.entry.line.map fun l => l ++ 0#6) / 2 ^ 32 := address_high_field 12 _ (by decide)
  rw [keyAddress_eq, keyLength_eq, lineAddress_eq, address_high_field 8 _ (by decide), hline]
  rfl

theorem word21_toNat : (v.word 21).toNat = addressOr0 (v.entry.line.map fun l => l ++ 0#6) % 2 ^ 32 := by
  have hword : v.word 21 = field 0 32 ((v.entry.line.map fun l => (downByte l 0).toNat).getD 0) := rfl
  rw [hword, lineAddress_eq, field_zero_toNat 32 _ le_rfl]

theorem word22_bit {b : Nat} (hb : b < 32) : (v.word 22).getLsbD b = (presenceOf v.entry).getD b false := by
  have hword : v.word 22 = BitVec.ofNat 32 (bitsNat v.entry.presence) := rfl
  rw [hword, presence_eq, BitVec.getLsbD_ofNat, decide_eq_true hb, Bool.true_and, bitsNat_testBit]

theorem word_beyond {w : Nat} (hw : 22 < w) : v.word w = 0 := by
  unfold Snapshot.word
  simp only [show ¬ w < 16 by omega, show w ≠ 16 by omega, show w ≠ 17 by omega, show w ≠ 18 by omega,
    show w ≠ 19 by omega, show w ≠ 20 by omega, show w ≠ 21 by omega, show w ≠ 22 by omega, if_false]

end Words

theorem showsSnapshot (v : Snapshot) (w : Nat) : ShowsSnapshot v w (v.word w) := by
  obtain ⟨hcompletion, hdiscard, hreservation, hnone, -⟩ := runningTimer_shows v.entry
  refine ⟨fun hw k hk => dataWord_byte hw hk, ?_, ?_, ?_, ?_, ?_, ?_, ?_, word_beyond v⟩ <;> rintro rfl
  · exact word16_toNat v
  · exact ⟨_, word17_toNat v, hcompletion, hdiscard, hreservation, hnone⟩
  · exact word18_toNat v
  · exact word19_toNat v
  · exact word20_toNat v
  · exact word21_toNat v
  · exact fun b hb => word22_bit v hb

/-! ## Every register -/

theorem readRegister_unmapped {a : BitVec 16} (s : State) (h : a.toNat ∉ mapped) : s.readRegister a = 0 := by
  unfold State.readRegister
  split
  iterate 39 next heq => exact absurd (by rw [heq]; decide) h
  rfl

/-- Settles O43: each block of registers by the words it is laid out in. -/
theorem viewsShowTheSelectedRecord : Obligations.ViewsShowTheSelectedRecord := by
  unfold Obligations.ViewsShowTheSelectedRecord
  exact fun s => ⟨statusRegistersRight s, writtenRegistersReadBack s, windowViewRight s, requesterViewRight s,
    tagViewRight s, queueViewRight s, linkViewRight s, logViewRight s, showsSnapshot _ _,
    fun a => readRegister_unmapped s⟩

end Sys2Proof.ViewProofs
